-- ==== Sys2Proof/Word.lean ====
section
/-! DEFINITION. The widths of the block's values (spec/00_scope.md R6, R7). -/

namespace Sys2Proof

/-- A byte: DATA_W and CRC_W are 8. -/
abbrev Byte := BitVec 8

/-- A register address of the sensor: ADDR_W is 12 (spec/90_conflicts.md C1). -/
abbrev Addr := BitVec 12

/-- A command word: CMD_W is 16. -/
abbrev CmdWord := BitVec 16

/-- An ABZ resolution: RES_W is 14. -/
abbrev Resolution := BitVec 14

/-- A raw angle: ANGLE_W is 21 (spec/90_conflicts.md C2). -/
abbrev RawAngle := BitVec 21

/-- An angle status field: STATUS_W is 3. -/
abbrev AngleStatus := BitVec 3

/-- Entry `i` of a byte sequence; sequences and byte arrays are indexed from 0 (R7). -/
def byteAt (s : List Byte) (i : Nat) : Byte := s.getD i 0

end Sys2Proof
end

