-- ==== Sys2Proof/Config.lean ====
section
/-! DEFINITION. The fixed constants and the parameters of spec/00_scope.md R6, the sensor's register
map (spec/20_memory.md R62), the transport's answers (R9), and the model's free values. -/

namespace Sys2Proof

/-- PAD_BYTE, the placeholder and pad byte (R6; the spec's decision D5). -/
def padByte : Byte := 0x00

/-- ACK_BYTE: "0x55 signals a correctly received write/zero-point/EEPROM-write command" (R6). The
block never compares it (D15); it is here for claims about what a host may conclude. -/
def ackByte : Byte := 0x55

/-- The register addresses of R62. -/
def addrUserId : Addr := 0x001
def addrAngleH : Addr := 0x003
def addrAngleM : Addr := 0x004
def addrAngleL : Addr := 0x005
def addrAngleCrc : Addr := 0x006
def addrAbzResolutionH : Addr := 0x007
def addrAbzResolutionL : Addr := 0x008
def addrAutocalFreq : Addr := 0x00E
def addrCalibrationStatus : Addr := 0x113

/-- The parameters of R6 that are not fixed: BURST_MAX_TOTAL (OPEN, D16) and the CRC-8 parameters,
whose defaults are the spec's (D9, from general knowledge). The machine carries them as data that no
step changes, so a claim about every state is a claim about every parameter
(notes/assumptions/5.md and 6.md). -/
structure Config where
  burstMaxTotal : Nat
  crcPoly : Byte := 0x07
  crcInit : Byte := 0x00
  crcReflect : Bool := false
  crcXorOut : Byte := 0x00
deriving DecidableEq, Repr

/-- The range of BURST_MAX_TOTAL (R6): 6 to 255. -/
def Config.wf (c : Config) : Bool := 6 ≤ c.burstMaxTotal && c.burstMaxTotal ≤ 255

/-- DESIGN CHOICE: the parameters of `State.reset`. BURST_MAX_TOTAL is 8, the value the spec's own
test programs take (spec/95_test_vectors.md, conventions); unsafe for a claim that leans on the 8
(notes/assumptions/5.md). -/
def Config.atReset : Config := { burstMaxTotal := 8 }

/-- What the transport does with an exchange on one turn of the sequencer (R9): `Ok(rx)`, `Err`, or
no answer on this turn. `given` fixes the first rx bytes; the bytes it does not fix are free values,
and rx has the length of tx whatever `given` holds (spec/60_exceptions.md R206;
notes/assumptions/2.md). -/
inductive Answer where
  | ok (given : List Byte)
  | err
  | noAnswer
deriving DecidableEq, Repr, Inhabited

/-- FREE VALUE: the transport's answer to draw `k` when no scripted answer is left
(spec/93_implementation_defined.md I6; notes/assumptions/2.md). -/
opaque Config.freeAnswer (k : Nat) : Answer

/-- FREE VALUE: rx byte `i` of draw `k` (I5, I15, I17, I21; notes/assumptions/2.md). -/
opaque Config.freeRx (k i : Nat) : Byte

/-- FREE VALUE: LAST_RX entry `i` after draw `k` answered Err (I3; notes/assumptions/4.md). -/
opaque Config.freeLastRx (k i : Nat) : Byte

end Sys2Proof
end

