-- ==== Sys2Proof/Syntax.lean ====
section
/-! DEFINITION. The instructions: the five wire commands and the eight host operations of
spec/opcode_table.json, and the program lines of spec/30_encoding.md R90 and R91. -/

namespace Sys2Proof

/-- The five defined opcodes (spec/30_encoding.md R81). -/
inductive Opcode where
  | read
  | write
  | writeEEPROM
  | setZeroPoint
  | continuousRead
deriving DecidableEq, Repr

/-- The value bytes of a Write command: the single-byte form, or the two-byte form that
ABZ_RES_WRITE uses (spec/40_command_frame.md R107). -/
inductive WriteData where
  | one (v : Byte)
  | two (v0 v1 : Byte)
deriving DecidableEq, Repr

/-- One constructor per row of the opcode table.

A wire command is the whole transaction it puts on the wire: the command word's address, and the
data phase where the command has operands there (spec/40_command_frame.md R106 to R110).
A host operation is its REQ_OP code alone: its operands are registers of the state, the fields of
CUR (spec/30_encoding.md R83). -/
inductive Instr where
  /-- Read, R106. -/
  | read (a : Addr)
  /-- Write, R107. -/
  | write (a : Addr) (d : WriteData)
  /-- WriteEEPROM, R108. -/
  | writeEEPROM (a : Addr)
  /-- SetZeroPoint, R109. -/
  | setZeroPoint (a : Addr)
  /-- ContinuousRead, R110: start address and total length N. -/
  | continuousRead (a : Addr) (n : Byte)
  /-- REG_READ, spec/41_register_access.md R122. -/
  | regRead
  /-- REG_WRITE, R123. -/
  | regWrite
  /-- BURST_READ, R124. -/
  | burstRead
  /-- EEPROM_WRITE, R125. -/
  | eepromWrite
  /-- SET_ZERO, R126. -/
  | setZero
  /-- ANGLE_READ_BURST, spec/42_angle.md R160. -/
  | angleReadBurst
  /-- ANGLE_READ_BYTEWISE, R165. -/
  | angleReadBytewise
  /-- ABZ_RES_WRITE, spec/43_config.md R180. -/
  | abzResWrite
deriving DecidableEq, Repr

/-- A program line (R90) or pseudo-operation (R91). Operands are plain numbers, as the line spells
them: the host's register write checks their width (spec/60_exceptions.md R205). -/
inductive Line where
  | regRead (addr : Nat)
  | regWrite (addr data : Nat)
  | burstRead (addr tlen : Nat)
  | eepromWrite (addr : Nat)
  | setZero (addr : Nat)
  | angleReadBurst
  | angleReadBytewise
  | abzResWrite (res abSwap abzOff : Nat)
  | readCalStatus
  | readUserId
  | eepromWriteNoOperand
  | setZeroNoOperand
  | angleRead
deriving DecidableEq, Repr

end Sys2Proof
end

