-- ==== Sys2Proof/WellFormed.lean ====
section
/-! DEFINITION. Which instructions are well formed: every field already has its exact width, so the
one check left is the length of a ContinuousRead (spec/40_command_frame.md R110). -/

namespace Sys2Proof

/-- "total length N, with 3 ≤ N ≤ BURST_MAX_TOTAL" (R110; spec/30_encoding.md R84). -/
def burstLengthOk (c : Config) (n : Byte) : Bool := 3 ≤ n.toNat && n.toNat ≤ c.burstMaxTotal

/-- The check on an instruction's own fields. -/
def Instr.wf (c : Config) : Instr → Bool
  | .read _ => true
  | .write _ _ => true
  | .writeEEPROM _ => true
  | .setZeroPoint _ => true
  | .continuousRead _ n => burstLengthOk c n
  | .regRead => true
  | .regWrite => true
  | .burstRead => true
  | .eepromWrite => true
  | .setZero => true
  | .angleReadBurst => true
  | .angleReadBytewise => true
  | .abzResWrite => true

end Sys2Proof
end

