-- ==== Sys2Proof/Decode.lean ====
section
/-! DEFINITION. The command-word packer, the frame serialiser and the frame decoder
(spec/40_command_frame.md R100 to R103), the decoder of whole wire transactions and of REQ_OP codes
(spec/30_encoding.md R80 to R86), the encoder, and the opcode table's numbering of bits. -/

namespace Sys2Proof

/-- The 4-bit opcode values of spec/30_encoding.md R81. -/
def Opcode.code : Opcode → BitVec 4
  | .read => 0x3
  | .write => 0x6
  | .writeEEPROM => 0xC
  | .setZeroPoint => 0x5
  | .continuousRead => 0xA

/-- `name` of R103; `none` is Invalid, the answer for the 11 undefined values (R86). -/
def opcodeOf (opc : BitVec 4) : Option Opcode :=
  if opc = 0x3 then some .read
  else if opc = 0x6 then some .write
  else if opc = 0xC then some .writeEEPROM
  else if opc = 0x5 then some .setZeroPoint
  else if opc = 0xA then some .continuousRead
  else none

/-- `pack(op, a)` (R100): opcode in bits [15:12], address in bits [11:0]. -/
def pack (op : Opcode) (a : Addr) : CmdWord := op.code ++ a

/-- `frame(op, a)` (R101): the command word's two bytes, most-significant byte first
(spec/20_memory.md R67). -/
def frame (op : Opcode) (a : Addr) : List Byte :=
  [(pack op a).extractLsb' 8 8, (pack op a).extractLsb' 0 8]

/-- `decode(b0, b1)` (R103); `none` is Invalid. -/
def decodeFrame (b0 b1 : Byte) : Option (Opcode × Addr) :=
  match opcodeOf ((b0 ++ b1 : CmdWord).extractLsb' 12 4) with
  | some op => some (op, (b0 ++ b1 : CmdWord).extractLsb' 0 12)
  | none => none

/-- An encoded instruction: a REQ_OP code (R82), or the bytes of a wire transaction in the order
they are sent (spec/30_encoding.md R85). -/
inductive Code where
  | reqOp (op : BitVec 4)
  | tx (bytes : List Byte)
deriving DecidableEq, Repr

/-- Why a code is no instruction. -/
inductive DecodeError where
  /-- One of the 11 undefined opcodes (R86). -/
  | undefinedOpcode (opc : BitVec 4)
  /-- REQ_OP 0x0 or 0x9 to 0xF (R82, R84). -/
  | reservedOperation (op : BitVec 4)
  /-- Fewer than the two bytes of a command frame. -/
  | noFrame
  /-- A data phase of a length the opcode does not have (R106 to R110). -/
  | badLength (op : Opcode) (len : Nat)
  /-- A placeholder or pad byte that is not PAD_BYTE. -/
  | badPad (op : Opcode)
deriving DecidableEq, Repr

/-- The decoder's answer. -/
inductive Decoded where
  | instr (i : Instr)
  | rejected (e : DecodeError)
deriving DecidableEq, Repr

/-- The data phase of a command whose only data byte is the placeholder (R106, R108, R109). -/
def decodePlaceholder (op : Opcode) (i : Instr) : List Byte → Decoded
  | [p] => if p = padByte then .instr i else .rejected (.badPad op)
  | d => .rejected (.badLength op d.length)

/-- The data phase of a Write (R107). -/
def decodeWriteData (a : Addr) : List Byte → Decoded
  | [v] => .instr (.write a (.one v))
  | [v0, v1] => .instr (.write a (.two v0 v1))
  | d => .rejected (.badLength .write d.length)

/-- The data phase of a ContinuousRead (R110): N − 2 pad bytes, N an 8-bit length. -/
def decodeBurstData (a : Addr) (d : List Byte) : Decoded :=
  if d.length = 0 ∨ 253 < d.length then .rejected (.badLength .continuousRead d.length)
  else if d.all (· == padByte) then .instr (.continuousRead a (BitVec.ofNat 8 (d.length + 2)))
  else .rejected (.badPad .continuousRead)

/-- The decoder of a whole wire transaction. -/
def decodeTx : List Byte → Decoded
  | b0 :: b1 :: d =>
    match decodeFrame b0 b1 with
    | none => .rejected (.undefinedOpcode (b0.extractLsb' 4 4))
    | some (.read, a) => decodePlaceholder .read (.read a) d
    | some (.write, a) => decodeWriteData a d
    | some (.writeEEPROM, a) => decodePlaceholder .writeEEPROM (.writeEEPROM a) d
    | some (.setZeroPoint, a) => decodePlaceholder .setZeroPoint (.setZeroPoint a) d
    | some (.continuousRead, a) => decodeBurstData a d
  | _ => .rejected .noFrame

/-- The decoder of a REQ_OP code (R82). -/
def decodeReqOp (op : BitVec 4) : Decoded :=
  if op = 0x1 then .instr .regRead
  else if op = 0x2 then .instr .regWrite
  else if op = 0x3 then .instr .burstRead
  else if op = 0x4 then .instr .eepromWrite
  else if op = 0x5 then .instr .setZero
  else if op = 0x6 then .instr .angleReadBurst
  else if op = 0x7 then .instr .angleReadBytewise
  else if op = 0x8 then .instr .abzResWrite
  else .rejected (.reservedOperation op)

/-- The decoder, total on every code. -/
def decode : Code → Decoded
  | .reqOp op => decodeReqOp op
  | .tx bytes => decodeTx bytes

/-- The tx bytes of a command with one placeholder byte: Read, WriteEEPROM, SetZeroPoint. -/
def placeholderBytes (op : Opcode) (a : Addr) : List Byte := frame op a ++ [padByte]

/-- The tx bytes of a Write's value bytes. -/
def WriteData.bytes : WriteData → List Byte
  | .one v => [v]
  | .two v0 v1 => [v0, v1]

/-- The tx bytes of a Write (R107). -/
def writeBytes (a : Addr) (d : WriteData) : List Byte := frame .write a ++ d.bytes

/-- The tx bytes of a ContinuousRead of total length n (R110). -/
def burstBytes (a : Addr) (n : Byte) : List Byte :=
  frame .continuousRead a ++ List.replicate (n.toNat - 2) padByte

/-- The encoder: REQ_OP codes of R82, wire transactions of R106 to R110. -/
def encode : Instr → Code
  | .read a => .tx (placeholderBytes .read a)
  | .write a d => .tx (writeBytes a d)
  | .writeEEPROM a => .tx (placeholderBytes .writeEEPROM a)
  | .setZeroPoint a => .tx (placeholderBytes .setZeroPoint a)
  | .continuousRead a n => .tx (burstBytes a n)
  | .regRead => .reqOp 0x1
  | .regWrite => .reqOp 0x2
  | .burstRead => .reqOp 0x3
  | .eepromWrite => .reqOp 0x4
  | .setZero => .reqOp 0x5
  | .angleReadBurst => .reqOp 0x6
  | .angleReadBytewise => .reqOp 0x7
  | .abzResWrite => .reqOp 0x8

/-- The code that the opcode table's number `w` stands for. A row of at most 8 bits is a REQ_OP code
(4 bits, given in whole bytes), and a wider number than 4 bits is none (I2: refused, not truncated).
A row of 16 bits is a command word, sent most-significant byte first, with one data byte of zero
(notes/assumptions/10.md). -/
def tableCode (nbits w : Nat) : Option Code :=
  if nbits ≤ 8 then
    if w < 16 then some (.reqOp (BitVec.ofNat 4 w)) else none
  else if nbits ≤ 16 then
    if w < 65536 then some (.tx [BitVec.ofNat 8 (w / 256), BitVec.ofNat 8 w, 0]) else none
  else none

/-- What the decoder reads from an instruction whose bits are `w`, numbered as the opcode table
numbers them. -/
def decodeTableWord (nbits w : Nat) : Option Instr :=
  match tableCode nbits w with
  | none => none
  | some code =>
    match decode code with
    | .instr i => some i
    | .rejected _ => none

end Sys2Proof
end

