-- ==== Sys2Proof/Machine/State.lean ====
section
/-! DEFINITION. The machine's state (spec/10_state.md R20 to R47), its reset (R50), and the reasons a
step can stop. -/

namespace Sys2Proof.Machine

/-- RESULT (spec/30_encoding.md R87). The reserved codes 6 and 7 are never written, so they have no
constructor. -/
inductive ResultCode where
  | noResult
  | ok
  | crcError
  | sensorStatus
  | transportError
  | illegalOp
deriving DecidableEq, Repr

/-- The number RESULT holds (R87). -/
def ResultCode.code : ResultCode → BitVec 3
  | .noResult => 0
  | .ok => 1
  | .crcError => 2
  | .sensorStatus => 3
  | .transportError => 4
  | .illegalOp => 5

/-- The operand a value was too wide for (spec/60_exceptions.md R205, spec/40_command_frame.md R102,
spec/93_implementation_defined.md I2). -/
inductive OperandField where
  | op
  | addr
  | wdata
  | tlen
  | res
  | abSwap
  | abzOff
  | opcode
  | tableWord
deriving DecidableEq, Repr

/-- The model's faults, `raise <Fault>(info)` of spec/00_scope.md R8. Both stop the machine where the
spec gives the hardware no meaning, so both are SAFE. -/
inductive Fault where
  /-- A START while BUSY = 1 (spec/60_exceptions.md R204). Raised by `startOp`; safe. -/
  | startWhileBusy
  /-- A value wider than its field (R205). Raised by `hostWrite`, by the checked packers
  `packChecked` and `abzWordChecked`, and by `placeWord` on a number that is no code; safe. -/
  | operandOutOfRange (field : OperandField) (value : Nat)
deriving DecidableEq, Repr

/-- The model's refusals. -/
inductive Refusal where
  /-- An instruction with no meaning yet. Answered by no arm of `exec`; safe. -/
  | notModelled (mnemonic : String)
  /-- BUSY = 1 with a request that is not legal (spec/30_encoding.md R84): START lets none through,
  so no run reaches it. Answered by `fetch`; safe (notes/assumptions/13.md). -/
  | illegalRequestRunning (op : BitVec 4)
  /-- A bare command in the latch that is none of the transactions the block sends
  (spec/30_encoding.md R86): "The block never sends these". Answered by `fetch`; safe
  (notes/assumptions/9.md). -/
  | commandNotSendable (bytes : List Byte)
deriving DecidableEq, Repr

/-- A request: the REQ_* registers (R22 to R28), and CUR (R44), which START copies from them. -/
structure Request where
  op : BitVec 4
  addr : Addr
  wdata : Byte
  tlen : Byte
  res : Resolution
  abSwap : Bool
  abzOff : Bool
deriving DecidableEq, Repr

/-- A RawAngleSample: SAMPLE[0..3] (R37) and SACC[0..3] (R46), in index order. -/
structure Sample where
  angleHigh : Byte
  angleMid : Byte
  angleLowStatus : Byte
  crc : Byte
deriving DecidableEq, Repr

/-- The result registers (R33 to R40). -/
structure Results where
  rdData : Byte
  ack : Byte
  burstCount : Byte
  burstData : List Byte
  sample : Sample
  crcCalc : Byte
  angleRaw : RawAngle
  angleStatus : AngleStatus
deriving DecidableEq, Repr

/-- The registers that show the last exchange (R41 to R43). -/
structure LastExchange where
  len : Byte
  tx : List Byte
  rx : List Byte
deriving DecidableEq, Repr

/-- The registers the host can name (R21, references 0 to 21 but for the strobe START). -/
inductive HostReg where
  | reqOp
  | reqAddr
  | reqWdata
  | reqTlen
  | reqRes
  | reqAbSwap
  | reqAbzOff
  | busy
  | done
  | result
  | rdData
  | ack
  | burstCount
  | burstData (i : Nat)
  | sample (i : Nat)
  | crcCalc
  | angleRaw
  | angleStatus
  | lastLen
  | lastTx (i : Nat)
  | lastRx (i : Nat)
deriving DecidableEq, Repr

/-- What the host does in its turn (R20): the host's pending actions stand in the state, so that one
deterministic step covers every interleaving (notes/assumptions/1.md and 15.md). -/
inductive HostAction where
  /-- Write a register. -/
  | write (r : HostReg) (v : Nat)
  /-- Read a register: no effect (R52). The value read is `hostRead`. -/
  | read (r : HostReg)
  /-- Issue START (R29). -/
  | start
  /-- Reset the block (spec/70_reset_and_hazards.md R240). -/
  | reset
  /-- Leave this turn to the sequencer. -/
  | pass
  /-- Wait until DONE = 1 (spec/30_encoding.md R90): the sequencer has the turn until then. -/
  | waitDone
deriving DecidableEq, Repr

/-- The whole state. -/
structure State where
  /-- The parameters (spec/00_scope.md R6); no step changes them. -/
  cfg : Config
  /-- REQ_*, R22 to R28. -/
  req : Request
  /-- BUSY, R30. -/
  busy : Bool
  /-- DONE, R31. -/
  done : Bool
  /-- RESULT, R32. -/
  result : ResultCode
  /-- The result registers, R33 to R40. -/
  out : Results
  /-- LAST_LEN, LAST_TX and LAST_RX, R41 to R43. -/
  last : LastExchange
  /-- CUR, R44. -/
  cur : Request
  /-- STEP, R45. -/
  stepIdx : BitVec 2
  /-- SACC, R46. -/
  sacc : Sample
  /-- An exchange has been sent and not yet answered (R50, R52; notes/assumptions/3.md). -/
  inFlight : Bool
  /-- FAULTED (R47) with the fault that set it: `some f` is FAULTED = 1 (notes/assumptions/8.md). -/
  raised : Option Fault
  /-- The model's own: a bare command's tx bytes (notes/assumptions/9.md). -/
  command : Option (List Byte)
  /-- The model's own: the host's pending actions (notes/assumptions/1.md). -/
  hostQueue : List HostAction
  /-- The model's own: the transport's scripted answers (notes/assumptions/2.md). -/
  answers : List Answer
  /-- The model's own: the counter of draws (notes/assumptions/2.md). -/
  draws : Nat
deriving DecidableEq, Repr

/-- A request of zeros (R44, R50). -/
def Request.zero : Request :=
  { op := 0, addr := 0, wdata := 0, tlen := 0, res := 0, abSwap := false, abzOff := false }

/-- A sample of zeros (R37, R46, R50). -/
def Sample.zero : Sample := { angleHigh := 0, angleMid := 0, angleLowStatus := 0, crc := 0 }

/-- The result registers after reset (R50): BURST_DATA has BURST_MAX_TOTAL − 2 entries (R36). -/
def Results.zero (c : Config) : Results :=
  { rdData := 0, ack := 0, burstCount := 0
    burstData := List.replicate (c.burstMaxTotal - 2) 0
    sample := Sample.zero, crcCalc := 0, angleRaw := 0, angleStatus := 0 }

/-- LAST_* after reset (R50): BURST_MAX_TOTAL entries each (R42, R43). -/
def LastExchange.zero (c : Config) : LastExchange :=
  { len := 0, tx := List.replicate c.burstMaxTotal 0, rx := List.replicate c.burstMaxTotal 0 }

/-- The block after reset under the parameters `c` (R50, spec/70_reset_and_hazards.md R240). Every value
is zero by the spec's own decision D28 (notes/assumptions/7.md). -/
def State.resetWith (c : Config) : State :=
  { cfg := c
    req := Request.zero
    busy := false
    done := false
    result := .noResult
    out := Results.zero c
    last := LastExchange.zero c
    cur := Request.zero
    stepIdx := 0
    sacc := Sample.zero
    inFlight := false
    raised := none
    command := none
    hostQueue := []
    answers := []
    draws := 0 }

/-- The machine right after reset, under the parameters of `Config.atReset`. -/
def State.reset : State := State.resetWith Config.atReset

end Sys2Proof.Machine
end

