-- ==== Sys2Proof/Machine/Ops.lean ====
section
/-! DEFINITION. The named operations over the state: byte arrays, latching a request, sending an
exchange, storing its answer, ending an operation, and raising a fault. The block takes no exceptions
and returns from none (spec/60_exceptions.md R200, R210): what stands in their place is the ending of
an operation with a RESULT code, `endOperation` and `transportError`, and the model's `raise`. -/

namespace Sys2Proof.Machine

/-- An array of `n` entries: entry i is `xs[i]` for i < len(xs), and 0x00 otherwise
(spec/41_register_access.md R120, R121). -/
def fillArray (n : Nat) (xs : List Byte) : List Byte := (List.range n).map (fun i => byteAt xs i)

/-- `raise <Fault>(info)`: sets FAULTED and leaves the rest as it was (spec/60_exceptions.md R204,
R205; spec/10_state.md R47). -/
def raise (f : Fault) (s : State) : State := { s with raised := some f }

/-- START's latching (spec/10_state.md R29): CUR takes REQ_*, and DONE, RESULT, STEP and SACC are
cleared. -/
def latch (s : State) : State :=
  { s with cur := s.req, done := false, result := .noResult, stepIdx := 0, sacc := Sample.zero }

/-- The sending half of an exchange (spec/41_register_access.md R120): LAST_LEN and LAST_TX show tx.
While an exchange waits for its answer, CUR and STEP do not change, so a later turn of the same
exchange writes the same values again (notes/assumptions/3.md). -/
def sendTx (tx : List Byte) (s : State) : State :=
  { s with
    last := { s.last with len := BitVec.ofNat 8 tx.length, tx := fillArray s.cfg.burstMaxTotal tx }
    inFlight := true }

/-- The receiving half on `Ok(rx)` (R120): LAST_RX shows rx. -/
def storeRx (rx : List Byte) (s : State) : State :=
  { s with last := { s.last with rx := fillArray s.cfg.burstMaxTotal rx }, inFlight := false }

/-- The ending of an operation (R121): its code, BUSY, DONE and STEP. -/
def endOperation (code : ResultCode) (s : State) : State :=
  { s with result := code, busy := false, done := true, stepIdx := 0 }

/-- `transport_error()` (spec/60_exceptions.md R202). LAST_RX takes free values
(notes/assumptions/4.md). -/
def transportError (s : State) : State :=
  endOperation .transportError
    { s with
      last := { s.last with
        rx := (List.range s.cfg.burstMaxTotal).map (Config.freeLastRx s.draws) }
      inFlight := false }

/-- The transport's answer to this turn's exchange: the next scripted one, or a free value. -/
def nextAnswer (s : State) : Answer :=
  match s.answers with
  | a :: _ => a
  | [] => Config.freeAnswer s.draws

/-- The turn's answer has been drawn. -/
def takeAnswer (s : State) : State := { s with answers := s.answers.tail, draws := s.draws + 1 }

/-- The rx bytes of an exchange of `n` bytes answered Ok: exactly `n` of them
(spec/60_exceptions.md R206), the given ones first and free values after
(spec/20_memory.md R72). -/
def receive (s : State) (n : Nat) (given : List Byte) : List Byte :=
  (List.range n).map (fun i => given.getD i (Config.freeRx s.draws i))

/-- `Exchange(tx)` (spec/00_scope.md R9) with what follows each answer (R120): `onOk` gets the rx
bytes, `onErr` runs on Err, and with no answer the exchange stays in flight. -/
def exchange (tx : List Byte) (onOk : List Byte → State → State) (onErr : State → State)
    (s : State) : State :=
  match nextAnswer s with
  | .ok given =>
    takeAnswer (onOk (receive s tx.length given) (storeRx (receive s tx.length given) (sendTx tx s)))
  | .err => takeAnswer (onErr (sendTx tx s))
  | .noAnswer => takeAnswer (sendTx tx s)

/-- Reset (spec/70_reset_and_hazards.md R240, R241): every register at its reset value. The
parameters, the host and the transport are not the block's, so they stay
(notes/assumptions/14.md). -/
def resetBlock (s : State) : State :=
  { State.resetWith s.cfg with hostQueue := s.hostQueue, answers := s.answers, draws := s.draws }

end Sys2Proof.Machine
end

