-- ==== Sys2Proof/Machine/Operands.lean ====
section
/-! DEFINITION. Operands and data formats: the tx bytes of every operation (spec/30_encoding.md R85),
the legality of a request (R84), the ABZ word (R88, spec/43_config.md R181), the raw angle and the
status field (R89, spec/42_angle.md R152, R153), and the packers that check wide operands
(spec/40_command_frame.md R102, spec/43_config.md R184). -/

namespace Sys2Proof.Machine

/-- `legal(CUR)` (R84). -/
def legal (c : Config) (r : Request) : Bool :=
  (1 ≤ r.op.toNat && r.op.toNat ≤ 8) && (r.op != 0x3 || burstLengthOk c r.tlen)

/-- `nexch(op)` (spec/41_register_access.md R120). -/
def nexch (op : BitVec 4) : Nat := if op = 0x7 then 4 else 1

/-- `abz_word(res, ab_swap, abz_off)`: {res, abz_off, ab_swap}
(spec/43_config.md R181; the flag positions are the spec's decision D11). -/
def abzWord (res : Resolution) (abSwap abzOff : Bool) : BitVec 16 :=
  res ++ BitVec.ofBool abzOff ++ BitVec.ofBool abSwap

/-- The two configuration bytes, high byte first (R182). -/
def abzBytes (r : Request) : WriteData :=
  .two ((abzWord r.res r.abSwap r.abzOff).extractLsb' 8 8)
    ((abzWord r.res r.abSwap r.abzOff).extractLsb' 0 8)

/-- tx of REG_READ (R122). -/
def txRegRead (r : Request) : List Byte := placeholderBytes .read r.addr

/-- tx of REG_WRITE (R123). -/
def txRegWrite (r : Request) : List Byte := writeBytes r.addr (.one r.wdata)

/-- tx of BURST_READ (R124). -/
def txBurstRead (r : Request) : List Byte := burstBytes r.addr r.tlen

/-- tx of EEPROM_WRITE (R125). -/
def txEepromWrite (r : Request) : List Byte := placeholderBytes .writeEEPROM r.addr

/-- tx of SET_ZERO (R126). -/
def txSetZero (r : Request) : List Byte := placeholderBytes .setZeroPoint r.addr

/-- tx of ANGLE_READ_BURST: from ANGLE_H, ANGLE_BURST_LEN = 6 (spec/42_angle.md R160). -/
def txAngleBurst : List Byte := burstBytes addrAngleH 6

/-- tx of exchange k of ANGLE_READ_BYTEWISE: Read of 0x003 + k (R165). -/
def txAngleByte (k : BitVec 2) : List Byte := placeholderBytes .read (addrAngleH + k.zeroExtend 12)

/-- tx of ABZ_RES_WRITE (spec/43_config.md R180). -/
def txAbzResWrite (r : Request) : List Byte := writeBytes addrAbzResolutionH (abzBytes r)

/-- The tx bytes of an instruction in a state (spec/30_encoding.md R85). -/
def txOf (i : Instr) (s : State) : List Byte :=
  match i with
  | .read a => placeholderBytes .read a
  | .write a d => writeBytes a d
  | .writeEEPROM a => placeholderBytes .writeEEPROM a
  | .setZeroPoint a => placeholderBytes .setZeroPoint a
  | .continuousRead a n => burstBytes a n
  | .regRead => txRegRead s.cur
  | .regWrite => txRegWrite s.cur
  | .burstRead => txBurstRead s.cur
  | .eepromWrite => txEepromWrite s.cur
  | .setZero => txSetZero s.cur
  | .angleReadBurst => txAngleBurst
  | .angleReadBytewise => txAngleByte s.stepIdx
  | .abzResWrite => txAbzResWrite s.cur

/-- Entry k of a sample takes a byte (`SACC[STEP] <- rx[2]`, spec/41_register_access.md R120). -/
def setSampleByte (x : Sample) (k : BitVec 2) (v : Byte) : Sample :=
  if k = 0 then { x with angleHigh := v }
  else if k = 1 then { x with angleMid := v }
  else if k = 2 then { x with angleLowStatus := v }
  else { x with crc := v }

/-- The four bytes of a sample, in index order. -/
def sampleBytes (x : Sample) : List Byte := [x.angleHigh, x.angleMid, x.angleLowStatus, x.crc]

/-- The bytes the CRC covers (spec/42_angle.md R151). -/
def angleData (x : Sample) : List Byte := [x.angleHigh, x.angleMid, x.angleLowStatus]

/-- The sample in rx[2..5] of an angle burst (R160). -/
def burstSample (rx : List Byte) : Sample :=
  { angleHigh := byteAt rx 2, angleMid := byteAt rx 3, angleLowStatus := byteAt rx 4
    crc := byteAt rx 5 }

/-- The raw angle {b0, b1, b2[7:3]} (R152). -/
def rawAngle (x : Sample) : RawAngle :=
  x.angleHigh ++ x.angleMid ++ x.angleLowStatus.extractLsb' 3 5

/-- The status field b2[2:0] (R153). -/
def statusField (x : Sample) : AngleStatus := x.angleLowStatus.extractLsb' 0 3

/-- The packer over wide operands: it refuses an opcode outside the five and an address ≥ 0x1000,
and truncates neither (spec/40_command_frame.md R102, spec/60_exceptions.md R205). -/
def packChecked (op a : Nat) : Except Fault CmdWord :=
  if 16 ≤ op then .error (.operandOutOfRange .opcode op)
  else
    match opcodeOf (BitVec.ofNat 4 op) with
    | none => .error (.operandOutOfRange .opcode op)
    | some o =>
      if a < 0x1000 then .ok (pack o (BitVec.ofNat 12 a))
      else .error (.operandOutOfRange .addr a)

/-- The ABZ packer over wide operands (spec/43_config.md R184). -/
def abzWordChecked (res abSwap abzOff : Nat) : Except Fault (BitVec 16) :=
  if 0x4000 ≤ res then .error (.operandOutOfRange .res res)
  else if 2 ≤ abSwap then .error (.operandOutOfRange .abSwap abSwap)
  else if 2 ≤ abzOff then .error (.operandOutOfRange .abzOff abzOff)
  else .ok (abzWord (BitVec.ofNat 14 res) (abSwap == 1) (abzOff == 1))

end Sys2Proof.Machine
end

