-- ==== Sys2Proof/Machine/Crc.lean ====
section
/-! DEFINITION. The CRC-8 engine (spec/42_angle.md R150), computed bit by bit with the parameters of
spec/00_scope.md R6. -/

namespace Sys2Proof.Machine

/-- `reverse8`: bit i moves to bit 7 − i. -/
def reverse8 (b : Byte) : Byte :=
  b.extractLsb' 0 1 ++ b.extractLsb' 1 1 ++ b.extractLsb' 2 1 ++ b.extractLsb' 3 1 ++
    b.extractLsb' 4 1 ++ b.extractLsb' 5 1 ++ b.extractLsb' 6 1 ++ b.extractLsb' 7 1

/-- `reverse8` where CRC8_REFLECT asks for it. -/
def reflectIf (c : Config) (b : Byte) : Byte := if c.crcReflect then reverse8 b else b

/-- One shift of the CRC register. -/
def crcShift (poly c : Byte) : Byte := if c.msb then (c <<< 1) ^^^ poly else c <<< 1

/-- `n` shifts. -/
def crcShifts (poly : Byte) : Nat → Byte → Byte
  | 0, c => c
  | n + 1, c => crcShifts poly n (crcShift poly c)

/-- One byte into the register. -/
def crcByte (cfg : Config) (c b : Byte) : Byte := crcShifts cfg.crcPoly 8 (c ^^^ reflectIf cfg b)

/-- The register after a byte sequence. -/
def crcRegister (cfg : Config) : List Byte → Byte → Byte
  | [], c => c
  | b :: bs, c => crcRegister cfg bs (crcByte cfg c b)

/-- `crc8(s)` (R150). -/
def crc8 (cfg : Config) (s : List Byte) : Byte :=
  reflectIf cfg (crcRegister cfg s cfg.crcInit) ^^^ cfg.crcXorOut

end Sys2Proof.Machine
end

