-- ==== Sys2Proof/Machine/Flags.lean ====
section
/-! DEFINITION. The RESULT code and the registers of the validation step
(spec/42_angle.md R155 to R159, spec/60_exceptions.md R207), and START's effect on BUSY, DONE and
RESULT (spec/10_state.md R29). -/

namespace Sys2Proof.Machine

/-- `crc_ok` (R155). -/
def crcOk (c : Config) (x : Sample) : Bool := crc8 c (angleData x) == x.crc

/-- The code of a sample: the CRC first, then the status (R156 to R159, R207 items 4 to 6). -/
def angleCode (c : Config) (x : Sample) : ResultCode :=
  if crcOk c x then
    if statusField x = 0 then .ok else .sensorStatus
  else .crcError

/-- The result registers `angle_complete` writes (R156): SAMPLE and CRC_CALC always, ANGLE_STATUS on
a CRC match, ANGLE_RAW on success. -/
def angleResults (c : Config) (x : Sample) (o : Results) : Results :=
  { o with
    sample := x
    crcCalc := crc8 c (angleData x)
    angleStatus := if crcOk c x then statusField x else o.angleStatus
    angleRaw := if angleCode c x = .ok then rawAngle x else o.angleRaw }

/-- `angle_complete(sample)` inside the completion step (R156, spec/41_register_access.md R121). -/
def angleComplete (x : Sample) (s : State) : State :=
  endOperation (angleCode s.cfg x) { s with out := angleResults s.cfg x s.out }

/-- START (spec/10_state.md R29; spec/60_exceptions.md R203, R204). -/
def startOp (s : State) : State :=
  if s.busy then raise .startWhileBusy s
  else if legal s.cfg s.req then { latch s with busy := true }
  else { latch s with result := .illegalOp, done := true }

end Sys2Proof.Machine
end

