-- ==== Sys2Proof/Machine/RegisterAccess.lean ====
section
/-! DEFINITION. The register-access operations (spec/41_register_access.md R120 to R126). Each is the
exchange step of R120 with its case of the completion step R121. The step is enabled when BUSY = 1 and
FAULTED = 0: `fetch` and `nextMove` see to that, so a meaning does not test it again
(notes/assumptions/13.md). -/

namespace Sys2Proof.Machine

/-- The exchange step of an operation with one exchange (R120). -/
def operation (tx : List Byte) (complete : List Byte → State → State) (s : State) :
    Host.Outcome State Fault Refusal :=
  .next (exchange tx complete transportError s)

/-- `RD_DATA <- rx[2]`, verbatim (R122, R128). -/
def completeRead (rx : List Byte) (s : State) : State :=
  endOperation .ok { s with out := { s.out with rdData := byteAt rx 2 } }

/-- `ACK <- rx[2]`, whether or not it is 0x55 (R123, R125, R126; the spec's decision D15). -/
def completeAck (rx : List Byte) (s : State) : State :=
  endOperation .ok { s with out := { s.out with ack := byteAt rx 2 } }

/-- `BURST_COUNT <- N − 2` and `BURST_DATA[i] <- rx[2+i]`, zero from N − 2 up (R124). -/
def completeBurst (rx : List Byte) (s : State) : State :=
  endOperation .ok
    { s with out := { s.out with
        burstCount := s.cur.tlen - 2
        burstData := fillArray (s.cfg.burstMaxTotal - 2) (rx.drop 2) } }

/-- REG_READ (R122). -/
def execRegRead (s : State) : Host.Outcome State Fault Refusal :=
  operation (txRegRead s.cur) completeRead s

/-- REG_WRITE (R123). -/
def execRegWrite (s : State) : Host.Outcome State Fault Refusal :=
  operation (txRegWrite s.cur) completeAck s

/-- BURST_READ (R124). -/
def execBurstRead (s : State) : Host.Outcome State Fault Refusal :=
  operation (txBurstRead s.cur) completeBurst s

/-- EEPROM_WRITE (R125). -/
def execEepromWrite (s : State) : Host.Outcome State Fault Refusal :=
  operation (txEepromWrite s.cur) completeAck s

/-- SET_ZERO (R126). -/
def execSetZero (s : State) : Host.Outcome State Fault Refusal :=
  operation (txSetZero s.cur) completeAck s

end Sys2Proof.Machine
end

