-- ==== Sys2Proof/Machine/Angle.lean ====
section
/-! DEFINITION. The two angle acquisitions (spec/42_angle.md R160, R165, R166). -/

namespace Sys2Proof.Machine

/-- The completion of ANGLE_READ_BURST: rx[2..5] validated (R160). -/
def completeAngleBurst (rx : List Byte) (s : State) : State := angleComplete (burstSample rx) s

/-- What follows `Ok(rx)` in ANGLE_READ_BYTEWISE (R165, spec/41_register_access.md R120): SACC takes
rx[2]; STEP advances while exchanges remain; after the fourth, SACC is validated (R166). -/
def completeAngleByte (rx : List Byte) (s : State) : State :=
  if s.stepIdx.toNat < nexch 0x7 - 1 then
    { s with sacc := setSampleByte s.sacc s.stepIdx (byteAt rx 2), stepIdx := s.stepIdx + 1 }
  else
    angleComplete (setSampleByte s.sacc s.stepIdx (byteAt rx 2))
      { s with sacc := setSampleByte s.sacc s.stepIdx (byteAt rx 2) }

/-- ANGLE_READ_BURST (R160). -/
def execAngleReadBurst (s : State) : Host.Outcome State Fault Refusal :=
  operation txAngleBurst completeAngleBurst s

/-- ANGLE_READ_BYTEWISE (R165): exchange number STEP. -/
def execAngleReadBytewise (s : State) : Host.Outcome State Fault Refusal :=
  operation (txAngleByte s.stepIdx) completeAngleByte s

end Sys2Proof.Machine
end

