-- ==== Sys2Proof/Machine/Configuration.lean ====
section
/-! DEFINITION. The ABZ resolution write (spec/43_config.md R180 to R183). -/

namespace Sys2Proof.Machine

/-- "No read-back or verification is performed" (R183): only the ending is written. -/
def completeAbz (_ : List Byte) (s : State) : State := endOperation .ok s

/-- ABZ_RES_WRITE (R180). -/
def execAbzResWrite (s : State) : Host.Outcome State Fault Refusal :=
  operation (txAbzResWrite s.cur) completeAbz s

end Sys2Proof.Machine
end

