-- ==== Sys2Proof/Machine/Wire.lean ====
section
/-! DEFINITION. The five wire commands as bare transactions (spec/40_command_frame.md R106 to R110):
the exchange, its trace in LAST_LEN, LAST_TX and LAST_RX, and no result register
(notes/assumptions/9.md). -/

namespace Sys2Proof.Machine

/-- The command word is "discarded after the frame is serialized" and answered (R100). -/
def dropCommand (s : State) : State := { s with command := none }

/-- The exchange of a bare command: "State written: none by the command itself" (R106); an Err is
`transport_error()` (spec/60_exceptions.md R202). -/
def bareExchange (tx : List Byte) (s : State) : State :=
  exchange tx (fun _ t => dropCommand t) (fun t => dropCommand (transportError t)) s

/-- Read (R106). -/
def execRead (a : Addr) (s : State) : Host.Outcome State Fault Refusal :=
  .next (bareExchange (placeholderBytes .read a) s)

/-- Write (R107), the single-byte and the two-byte form. -/
def execWrite (a : Addr) (d : WriteData) (s : State) : Host.Outcome State Fault Refusal :=
  .next (bareExchange (writeBytes a d) s)

/-- WriteEEPROM (R108). -/
def execWriteEEPROM (a : Addr) (s : State) : Host.Outcome State Fault Refusal :=
  .next (bareExchange (placeholderBytes .writeEEPROM a) s)

/-- SetZeroPoint (R109). -/
def execSetZeroPoint (a : Addr) (s : State) : Host.Outcome State Fault Refusal :=
  .next (bareExchange (placeholderBytes .setZeroPoint a) s)

/-- ContinuousRead (R110). -/
def execContinuousRead (a : Addr) (n : Byte) (s : State) : Host.Outcome State Fault Refusal :=
  .next (bareExchange (burstBytes a n) s)

end Sys2Proof.Machine
end

