-- ==== Sys2Proof/Machine/Dispatch.lean ====
section
/-! DEFINITION. One arm per constructor of Instr, each one call of that instruction's meaning. -/

namespace Sys2Proof.Machine

def exec (i : Instr) (s : State) : Host.Outcome State Fault Refusal :=
  match i with
  -- the wire commands, spec/40_command_frame.md
  | .read a => Sys2Proof.Machine.execRead a s
  | .write a d => Sys2Proof.Machine.execWrite a d s
  | .writeEEPROM a => Sys2Proof.Machine.execWriteEEPROM a s
  | .setZeroPoint a => Sys2Proof.Machine.execSetZeroPoint a s
  | .continuousRead a n => Sys2Proof.Machine.execContinuousRead a n s
  -- the host operations, spec/41_register_access.md, 42_angle.md, 43_config.md
  | .regRead => Sys2Proof.Machine.execRegRead s
  | .regWrite => Sys2Proof.Machine.execRegWrite s
  | .burstRead => Sys2Proof.Machine.execBurstRead s
  | .eepromWrite => Sys2Proof.Machine.execEepromWrite s
  | .setZero => Sys2Proof.Machine.execSetZero s
  | .angleReadBurst => Sys2Proof.Machine.execAngleReadBurst s
  | .angleReadBytewise => Sys2Proof.Machine.execAngleReadBytewise s
  | .abzResWrite => Sys2Proof.Machine.execAbzResWrite s

end Sys2Proof.Machine
end

