-- ==== Sys2Proof/Machine/HostPort.lean ====
section
/-! DEFINITION. The host's side: register reads and writes (spec/10_state.md R21, R52,
spec/60_exceptions.md R205), the host's actions, whose turn it is, and the program lines of
spec/30_encoding.md R90 and R91. -/

namespace Sys2Proof.Machine

/-- A host write into a field of `w` bits: a value that does not fit raises OperandOutOfRange and is
never truncated (spec/60_exceptions.md R205). -/
def writeField (w : Nat) (f : OperandField) (v : Nat) (r : Request) (s : State) : State :=
  if v < 2 ^ w then { s with req := r } else raise (.operandOutOfRange f v) s

/-- A host write (R21): an RW register takes the value, an RO register ignores it. -/
def hostWrite (r : HostReg) (v : Nat) (s : State) : State :=
  match r with
  | .reqOp => writeField 4 .op v { s.req with op := BitVec.ofNat 4 v } s
  | .reqAddr => writeField 12 .addr v { s.req with addr := BitVec.ofNat 12 v } s
  | .reqWdata => writeField 8 .wdata v { s.req with wdata := BitVec.ofNat 8 v } s
  | .reqTlen => writeField 8 .tlen v { s.req with tlen := BitVec.ofNat 8 v } s
  | .reqRes => writeField 14 .res v { s.req with res := BitVec.ofNat 14 v } s
  | .reqAbSwap => writeField 1 .abSwap v { s.req with abSwap := v == 1 } s
  | .reqAbzOff => writeField 1 .abzOff v { s.req with abzOff := v == 1 } s
  | .busy => s
  | .done => s
  | .result => s
  | .rdData => s
  | .ack => s
  | .burstCount => s
  | .burstData _ => s
  | .sample _ => s
  | .crcCalc => s
  | .angleRaw => s
  | .angleStatus => s
  | .lastLen => s
  | .lastTx _ => s
  | .lastRx _ => s

/-- An entry of a byte array, or none where the array has no such entry. -/
def readEntry (xs : List Byte) (i : Nat) : Option Nat := (xs[i]?).map BitVec.toNat

/-- A host read (R21, R52): the value an RW or RO register shows. START is write-only and the
internal registers are no host registers; an array entry past the array's end does not exist. -/
def hostRead (s : State) : HostReg → Option Nat
  | .reqOp => some s.req.op.toNat
  | .reqAddr => some s.req.addr.toNat
  | .reqWdata => some s.req.wdata.toNat
  | .reqTlen => some s.req.tlen.toNat
  | .reqRes => some s.req.res.toNat
  | .reqAbSwap => some s.req.abSwap.toNat
  | .reqAbzOff => some s.req.abzOff.toNat
  | .busy => some s.busy.toNat
  | .done => some s.done.toNat
  | .result => some s.result.code.toNat
  | .rdData => some s.out.rdData.toNat
  | .ack => some s.out.ack.toNat
  | .burstCount => some s.out.burstCount.toNat
  | .burstData i => readEntry s.out.burstData i
  | .sample i => readEntry (sampleBytes s.out.sample) i
  | .crcCalc => some s.out.crcCalc.toNat
  | .angleRaw => some s.out.angleRaw.toNat
  | .angleStatus => some s.out.angleStatus.toNat
  | .lastLen => some s.last.len.toNat
  | .lastTx i => readEntry s.last.tx i
  | .lastRx i => readEntry s.last.rx i

/-- Whose turn it is, and the state it starts from. -/
inductive Move where
  /-- FAULTED = 1: no further steps (R47). -/
  | faulted (f : Fault)
  /-- The host acts, and this is the state after its action. -/
  | host (t : State)
  /-- The sequencer has the turn in this state. -/
  | sequencer (t : State)
deriving DecidableEq, Repr

/-- The host's next action (R20), taken from `s`; the rest of the queue is `rest`. -/
def hostMove (s : State) (a : HostAction) (rest : List HostAction) : Move :=
  match a with
  | .write r v => .host (hostWrite r v { s with hostQueue := rest })
  | .read _ => .host { s with hostQueue := rest }
  | .start => .host (startOp { s with hostQueue := rest })
  | .reset => .host (resetBlock { s with hostQueue := rest })
  | .pass => .sequencer { s with hostQueue := rest }
  | .waitDone => if s.done then .host { s with hostQueue := rest } else .sequencer s

/-- The next move (R20, R47): a host with nothing pending leaves the turn to the sequencer. -/
def nextMove (s : State) : Move :=
  match s.raised with
  | some f => .faulted f
  | none =>
    match s.hostQueue with
    | [] => .sequencer s
    | a :: rest => hostMove s a rest

/-- START and the wait that end every program line (R90). -/
def lineEnd (op : Nat) : List HostAction := [.write .reqOp op, .start, .waitDone]

/-- What a program line stands for: the operands' registers, REQ_OP, START, wait until DONE = 1
(R90); a pseudo-operation is its expansion (R91). DESIGN CHOICE: the operands' registers are written
in the order in which the line names its operands, which R90 leaves open; it decides which fault a line
with several operands too wide raises (notes/assumptions/16.md). -/
def lineActions : Line → List HostAction
  | .regRead a => .write .reqAddr a :: lineEnd 1
  | .regWrite a v => .write .reqAddr a :: .write .reqWdata v :: lineEnd 2
  | .burstRead a n => .write .reqAddr a :: .write .reqTlen n :: lineEnd 3
  | .eepromWrite a => .write .reqAddr a :: lineEnd 4
  | .setZero a => .write .reqAddr a :: lineEnd 5
  | .angleReadBurst => lineEnd 6
  | .angleReadBytewise => lineEnd 7
  | .abzResWrite r sw off =>
    .write .reqRes r :: .write .reqAbSwap sw :: .write .reqAbzOff off :: lineEnd 8
  | .readCalStatus => .write .reqAddr 0x113 :: lineEnd 1
  | .readUserId => .write .reqAddr 0x001 :: lineEnd 1
  | .eepromWriteNoOperand => .write .reqAddr 0x000 :: lineEnd 4
  | .setZeroNoOperand => .write .reqAddr 0x000 :: lineEnd 5
  | .angleRead => lineEnd 6

/-- A program: its lines in order. -/
def programActions (p : List Line) : List HostAction := (p.map lineActions).flatten

end Sys2Proof.Machine
end

