-- ==== Sys2Proof/Machine/Fetch.lean ====
section
/-! DEFINITION. What the sequencer runs in its turn, and how an instruction is placed there. The
block has no program counter and no stored program (spec/00_scope.md R8, spec/20_memory.md R77): the
running operation is CUR.op with STEP in the place of a program counter (spec/10_state.md R45), and a
bare command stands in the model's own latch (notes/assumptions/9.md and 10.md). -/

namespace Sys2Proof.Machine

/-- What the sequencer finds to run. -/
inductive Fetched where
  | instr (i : Instr)
  /-- BUSY = 0 and no command: nothing to do. -/
  | idle
  | refused (r : Refusal)
deriving DecidableEq, Repr

/-- The bare command in the latch. -/
def fetchCommand (c : Config) (bytes : List Byte) : Fetched :=
  match decode (.tx bytes) with
  | .instr i => if i.wf c then .instr i else .refused (.commandNotSendable bytes)
  | .rejected _ => .refused (.commandNotSendable bytes)

/-- The running operation (spec/10_state.md R45). -/
def fetchOperation (c : Config) (r : Request) : Fetched :=
  match decode (.reqOp r.op) with
  | .instr i => if legal c r then .instr i else .refused (.illegalRequestRunning r.op)
  | .rejected _ => .refused (.illegalRequestRunning r.op)

/-- The sequencer's turn: a bare command first, so that its exchange is answered before an
operation's begins (spec/20_memory.md R76), then the running operation while BUSY = 1
(spec/41_register_access.md R120). -/
def fetch (s : State) : Fetched :=
  match s.command with
  | some bytes => fetchCommand s.cfg bytes
  | none => if s.busy then fetchOperation s.cfg s.cur else .idle

/-- The operands a placed operation needs to be legal (spec/30_encoding.md R84): a BURST_READ whose
TLEN is out of range gets the least length, 3. -/
def placeOperands (c : Config) (r : Request) : Request :=
  if r.op = 0x3 ∧ burstLengthOk c r.tlen = false then { r with tlen := 3 } else r

/-- An operation running at its first exchange, as START leaves it (spec/10_state.md R29). -/
def placeOperation (op : BitVec 4) (s : State) : State :=
  { s with
    cur := placeOperands s.cfg { s.cur with op := op }
    busy := true, done := false, result := .noResult, stepIdx := 0, sacc := Sample.zero
    inFlight := false, command := none }

/-- The instruction of the table's number `w`, placed where the next step finds it: the host's queue
begins with a pass, and no fault stands. A number that is no code is refused, never truncated
(spec/93_implementation_defined.md I2). -/
def placeWord (nbits w : Nat) (s : State) : State :=
  match tableCode nbits w with
  | none => raise (.operandOutOfRange .tableWord w) s
  | some (.reqOp op) =>
    { placeOperation op s with raised := none, hostQueue := .pass :: s.hostQueue }
  | some (.tx bytes) =>
    { s with command := some bytes, raised := none, hostQueue := .pass :: s.hostQueue }

end Sys2Proof.Machine
end

