-- ==== Sys2Proof/Machine/Step.lean ====
section
/-! DEFINITION. One step of the machine (spec/10_state.md R20, R47; spec/41_register_access.md R120). -/

namespace Sys2Proof.Machine

/-- The host's action where it has one, else the sequencer's turn: the instruction it finds, or
nothing while it is idle. FAULTED stops the machine with the fault that set it. -/
def step (s : State) : Host.Outcome State Fault Refusal :=
  match nextMove s with
  | .faulted f => .fault f
  | .host t => .next t
  | .sequencer t =>
    match fetch t with
    | .instr i => exec i t
    | .idle => .next t
    | .refused r => .refused r

/-- `s` with the table's instruction `w` placed where `step` finds its next instruction. -/
def State.withFetchWord (s : State) (nbits w : Nat) : State := placeWord nbits w s

end Sys2Proof.Machine
end

