-- ==== Sys2Proof/Safety.lean ====
section
/-! DEFINITION. The terms claims are made in: the invariant of the machine, the frame of an exchange,
the ending of an operation, what LAST_* and the angle registers show, and the spec's byte layouts. -/

namespace Sys2Proof.Machine

/-! ### The invariant -/

/-- Every array has the length BURST_MAX_TOTAL gives it (spec/10_state.md R36, R42, R43). -/
abbrev Sized (s : State) : Prop :=
  s.out.burstData.length = s.cfg.burstMaxTotal - 2 ∧
    s.last.tx.length = s.cfg.burstMaxTotal ∧ s.last.rx.length = s.cfg.burstMaxTotal

/-- BUSY, DONE, RESULT and STEP agree (R30, R31, R32, R45; R44 through R84). -/
abbrev PhasesAgree (s : State) : Prop :=
  (s.busy = true → s.done = false) ∧
    (s.done = true ↔ s.result ≠ .noResult) ∧
    (s.busy = true → legal s.cfg s.cur = true ∧ s.stepIdx.toNat < nexch s.cur.op) ∧
    (s.busy = false → s.stepIdx = 0)

/-- An exchange in flight belongs to the running operation or to a bare command
(spec/20_memory.md R76). -/
abbrev FlightOwned (s : State) : Prop :=
  s.inFlight = true → s.busy = true ∨ s.command.isSome = true

/-- LAST_LEN and BURST_COUNT stay in range, and entries past them are zero (R35, R36, R41, R42). -/
abbrev TailsZero (s : State) : Prop :=
  s.last.len.toNat ≤ s.cfg.burstMaxTotal ∧
    (s.last.tx.drop s.last.len.toNat).all (· == 0) = true ∧
    s.out.burstCount.toNat ≤ s.cfg.burstMaxTotal - 2 ∧
    (s.out.burstData.drop s.out.burstCount.toNat).all (· == 0) = true

/-- The invariant every step keeps. -/
abbrev State.Inv (s : State) : Prop :=
  s.cfg.wf = true ∧ Sized s ∧ PhasesAgree s ∧ FlightOwned s ∧ TailsZero s

/-- CRC_CALC is the CRC of SAMPLE's data bytes (R38). -/
abbrev CrcAgrees (s : State) : Prop := s.out.crcCalc = crc8 s.cfg (angleData s.out.sample)

/-! ### Host operations -/

/-- The eight host operations (spec/30_encoding.md R82). -/
def isHostOp : Instr → Bool
  | .read _ => false
  | .write _ _ => false
  | .writeEEPROM _ => false
  | .setZeroPoint _ => false
  | .continuousRead _ _ => false
  | .regRead => true
  | .regWrite => true
  | .burstRead => true
  | .eepromWrite => true
  | .setZero => true
  | .angleReadBurst => true
  | .angleReadBytewise => true
  | .abzResWrite => true

/-- A host may take a command as accepted only on ACK_BYTE (spec/70_reset_and_hazards.md R248). -/
def ackAccepted (s : State) : Bool := s.out.ack == ackByte

/-! ### Frames -/

/-- What no exchange of any instruction changes: the parameters, the REQ_* registers, CUR, FAULTED
and the host's queue (spec/10_state.md R44, R47, R48). -/
abbrev KeepsOutside (s t : State) : Prop :=
  t.cfg = s.cfg ∧ t.req = s.req ∧ t.cur = s.cur ∧ t.raised = s.raised ∧ t.hostQueue = s.hostQueue

/-- One answer of the transport has been drawn. -/
abbrev DrawTaken (s t : State) : Prop := t.answers = s.answers.tail ∧ t.draws = s.draws + 1

/-- The status registers an operation's ending leaves (spec/41_register_access.md R121). -/
abbrev Ended (code : ResultCode) (t : State) : Prop :=
  t.busy = false ∧ t.done = true ∧ t.result = code ∧ t.stepIdx = 0 ∧ t.inFlight = false

/-- BUSY, DONE, RESULT and STEP are unchanged. -/
abbrev KeepsStatus (s t : State) : Prop :=
  t.busy = s.busy ∧ t.done = s.done ∧ t.result = s.result ∧ t.stepIdx = s.stepIdx

/-- LAST_LEN and LAST_TX show the exchange `tx` (R41, R42): entries 0 to LAST_LEN − 1 hold it, and
the entries above are 0x00. -/
abbrev ShowsTx (s t : State) (tx : List Byte) : Prop :=
  t.last.len.toNat = tx.length ∧ t.last.tx.length = s.cfg.burstMaxTotal ∧
    ∀ i, i < s.cfg.burstMaxTotal → byteAt t.last.tx i = if i < tx.length then byteAt tx i else 0

/-- LAST_RX shows the answer `rx` (R43), like LAST_TX. -/
abbrev ShowsRx (s t : State) (rx : List Byte) : Prop :=
  t.last.rx.length = s.cfg.burstMaxTotal ∧
    ∀ i, i < s.cfg.burstMaxTotal → byteAt t.last.rx i = if i < rx.length then byteAt rx i else 0

/-! ### The spec's layouts -/

/-- `a[11:8]` as a byte (spec/30_encoding.md R85). -/
def addrHigh (a : Addr) : Byte := (a.extractLsb' 8 4).zeroExtend 8

/-- `a[7:0]`. -/
def addrLow (a : Addr) : Byte := a.extractLsb' 0 8

/-- The ABZ word by its formula (spec/30_encoding.md R88). -/
def abzFormula (res : Resolution) (abSwap abzOff : Bool) : BitVec 16 :=
  (res.zeroExtend 16 <<< 2) ||| ((BitVec.ofBool abzOff).zeroExtend 16 <<< 1) |||
    (BitVec.ofBool abSwap).zeroExtend 16

/-- The raw angle by its formula (spec/42_angle.md R152). -/
def angleFormula (b0 b1 b2 : Byte) : RawAngle :=
  (b0.zeroExtend 21 <<< 13) ||| (b1.zeroExtend 21 <<< 5) ||| (b2.zeroExtend 21 >>> 3)

/-- What the validation step leaves for the sample `x`, from the result registers `o`
(spec/42_angle.md R156 to R159). -/
abbrev AngleOutcome (c : Config) (x : Sample) (o : Results) (t : State) : Prop :=
  t.out.sample = x ∧
    t.out.crcCalc = crc8 c [x.angleHigh, x.angleMid, x.angleLowStatus] ∧
    t.out.rdData = o.rdData ∧ t.out.ack = o.ack ∧ t.out.burstCount = o.burstCount ∧
    t.out.burstData = o.burstData ∧
    (if crc8 c [x.angleHigh, x.angleMid, x.angleLowStatus] ≠ x.crc then
      Ended .crcError t ∧ t.out.angleStatus = o.angleStatus ∧ t.out.angleRaw = o.angleRaw
    else if x.angleLowStatus.extractLsb' 0 3 ≠ 0 then
      Ended .sensorStatus t ∧ t.out.angleStatus = x.angleLowStatus.extractLsb' 0 3 ∧
        t.out.angleRaw = o.angleRaw
    else
      Ended .ok t ∧ t.out.angleStatus = 0 ∧
        t.out.angleRaw = angleFormula x.angleHigh x.angleMid x.angleLowStatus)

/-- The width of a register the host may write, and the operand it is (spec/10_state.md R21,
spec/60_exceptions.md R205); none for RO. -/
def rwField : HostReg → Option (Nat × OperandField)
  | .reqOp => some (4, .op)
  | .reqAddr => some (12, .addr)
  | .reqWdata => some (8, .wdata)
  | .reqTlen => some (8, .tlen)
  | .reqRes => some (14, .res)
  | .reqAbSwap => some (1, .abSwap)
  | .reqAbzOff => some (1, .abzOff)
  | .busy => none
  | .done => none
  | .result => none
  | .rdData => none
  | .ack => none
  | .burstCount => none
  | .burstData _ => none
  | .sample _ => none
  | .crcCalc => none
  | .angleRaw => none
  | .angleStatus => none
  | .lastLen => none
  | .lastTx _ => none
  | .lastRx _ => none

/-! ### Endings shared by statements -/

/-- `s` once a program line has written the request `r` and started it (spec/30_encoding.md R90,
spec/10_state.md R29): the operation runs, and the host waits for DONE before it goes on with `rest`. -/
def startedWith (r : Request) (rest : List HostAction) (s : State) : State :=
  { s with
    req := r, cur := r, busy := true, done := false, result := .noResult, stepIdx := 0
    sacc := Sample.zero, hostQueue := .waitDone :: rest }

/-- `s` once a program line has written the request `r` and its START has refused it
(spec/60_exceptions.md R203). -/
def refusedWith (r : Request) (rest : List HostAction) (s : State) : State :=
  { startedWith r rest s with busy := false, done := true, result := .illegalOp }

/-- The number of each RESULT code (spec/30_encoding.md R87). -/
def resultNumber : ResultCode → Nat
  | .noResult => 0
  | .ok => 1
  | .crcError => 2
  | .sensorStatus => 3
  | .transportError => 4
  | .illegalOp => 5

/-- The host reads entry i of an array as its byte i, and no entry past the array's end. -/
abbrev ShowsEntries (s : State) (reg : Nat → HostReg) (xs : List Byte) : Prop :=
  ∀ i, hostRead s (reg i) = if i < xs.length then some (byteAt xs i).toNat else none

/-- An exchange of `tx` answered `rx`: what LAST_* show, and the frame. -/
abbrev Answered (s t : State) (tx rx : List Byte) : Prop :=
  ShowsTx s t tx ∧ ShowsRx s t rx ∧ KeepsOutside s t ∧ DrawTaken s t

/-- A host operation ends on `Err` (spec/60_exceptions.md R202): TRANSPORT_ERROR, no result register
written, LAST_* show the failing exchange, and LAST_RX is of unstated content. -/
abbrev EndsOnErr (i : Instr) (s : State) (tx : List Byte) : Prop :=
  nextAnswer s = .err → ∃ t, exec i s = .next t ∧ Ended .transportError t ∧ t.out = s.out ∧
    t.sacc = s.sacc ∧ t.command = s.command ∧ ShowsTx s t tx ∧
    t.last.rx.length = s.cfg.burstMaxTotal ∧ KeepsOutside s t ∧ DrawTaken s t

/-- A bare command runs its exchange and writes no result and no status register
(spec/40_command_frame.md R106 to R110); on `Err` it ends as R202 says. That the latch is then empty
is the model's own (notes/assumptions/9.md). -/
abbrev BareCompletes (i : Instr) (s : State) (tx : List Byte) : Prop :=
  (∀ g, nextAnswer s = .ok g → ∃ t, exec i s = .next t ∧
    Answered s t tx (receive s tx.length g) ∧ t.out = s.out ∧ KeepsStatus s t ∧
    t.sacc = s.sacc ∧ t.inFlight = false ∧ t.command = none) ∧
  (nextAnswer s = .err → ∃ t, exec i s = .next t ∧ Ended .transportError t ∧ t.out = s.out ∧
    t.sacc = s.sacc ∧ t.command = none ∧ ShowsTx s t tx ∧ KeepsOutside s t ∧ DrawTaken s t)

/-- A request for `op` is legal whatever its operands (spec/30_encoding.md R84). -/
abbrev NeverIllegal (op : BitVec 4) : Prop :=
  ∀ (c : Config) (r : Request), r.op = op → legal c r = true

/-- The wire opcode an instruction sends (spec/30_encoding.md R82). -/
def wireOpcode : Instr → Opcode
  | .read _ => .read
  | .write _ _ => .write
  | .writeEEPROM _ => .writeEEPROM
  | .setZeroPoint _ => .setZeroPoint
  | .continuousRead _ _ => .continuousRead
  | .regRead => .read
  | .regWrite => .write
  | .burstRead => .continuousRead
  | .eepromWrite => .writeEEPROM
  | .setZero => .setZeroPoint
  | .angleReadBurst => .continuousRead
  | .angleReadBytewise => .read
  | .abzResWrite => .write

/-- The state with the transport's answers scripted. -/
def scripted (as : List Answer) (s : State) : State := { s with answers := as }

/-- `n` exchange steps of one instruction. -/
def execTimes (i : Instr) : Nat → State → Host.Outcome State Fault Refusal
  | 0, s => .next s
  | n + 1, s =>
    match exec i s with
    | .next t => execTimes i n t
    | .fault f => .fault f
    | .refused r => .refused r

/-- The sequencer has the turn in `s` and runs in `t`: no fault stands, and the host has nothing
pending, or passes, or waits for DONE (notes/assumptions/1.md and 15.md). -/
abbrev SequencerTurn (s t : State) : Prop :=
  s.raised = none ∧
    ((s.hostQueue = [] ∧ t = s) ∨
      (∃ rest, s.hostQueue = .pass :: rest ∧ t = { s with hostQueue := rest }) ∨
      (∃ rest, s.hostQueue = .waitDone :: rest ∧ s.done = false ∧ t = s))

/-- A result register is the same after two runs, or both runs left it alone. -/
abbrev SameOrKept {α : Type} (a₁ a₂ b₁ b₂ : α) : Prop := b₁ = b₂ ∨ (b₁ = a₁ ∧ b₂ = a₂)

end Sys2Proof.Machine
end

