-- ==== Sys2Proof/Certificates/Slice0/Obligations.lean ====
section
/-! DEFINITION. The statements about the machine, for the provers. Each docstring says which rule of
spec/ it formalises, and names the spec's own decision (D<n>) or the log entry where it rests on one.
In every statement `nextAnswer s` is what the transport answers to the exchange the instruction sends
(spec/00_scope.md R9; the script and the draws are notes/assumptions/2.md). -/

open Sys2Proof Sys2Proof.Machine

/-! ### Encodings -/

/-- 40_command_frame.md R100. -/
def Obligations.PackPlacesOpcodeAndAddress : Prop :=
  ∀ (op : Opcode) (a : Addr),
    (pack op a).extractLsb' 12 4 = op.code ∧ (pack op a).extractLsb' 0 12 = a ∧
      pack op a = (op.code.zeroExtend 16 <<< 12) ||| a.zeroExtend 16

/-- 40_command_frame.md R101: [{op, a[11:8]}, a[7:0]]. -/
def Obligations.FrameIsTwoBytesHighFirst : Prop :=
  ∀ (op : Opcode) (a : Addr),
    frame op a = [op.code ++ a.extractLsb' 8 4, a.extractLsb' 0 8] ∧
      (byteAt (frame op a) 0 ++ byteAt (frame op a) 1 : CmdWord) = pack op a

/-- 40_command_frame.md R103: the five opcodes, and Invalid for every other (the spec's decision D25). -/
def Obligations.FrameDecoderIsTotal : Prop :=
  ∀ b0 b1 : Byte,
    decodeFrame b0 b1 =
      if b0.extractLsb' 4 4 = 0x3 then some (.read, b0.extractLsb' 0 4 ++ b1)
      else if b0.extractLsb' 4 4 = 0x6 then some (.write, b0.extractLsb' 0 4 ++ b1)
      else if b0.extractLsb' 4 4 = 0xC then some (.writeEEPROM, b0.extractLsb' 0 4 ++ b1)
      else if b0.extractLsb' 4 4 = 0x5 then some (.setZeroPoint, b0.extractLsb' 0 4 ++ b1)
      else if b0.extractLsb' 4 4 = 0xA then some (.continuousRead, b0.extractLsb' 0 4 ++ b1)
      else none

/-- 40_command_frame.md R104 (its second sentence is the spec's own derivation): decoding a frame
recovers opcode and address, no two pairs share a frame, and the frames are the byte pairs whose high
nibble is a defined opcode. -/
def Obligations.FrameRoundTrip : Prop :=
  (∀ (op : Opcode) (a : Addr) (b0 b1 : Byte),
    decodeFrame b0 b1 = some (op, a) ↔ frame op a = [b0, b1]) ∧
  (∀ b0 b1 : Byte, (∃ op a, frame op a = [b0, b1]) ↔ ∃ op : Opcode, op.code = b0.extractLsb' 4 4)

/-- Every well-formed instruction survives encoding and decoding. -/
def Obligations.DecodeEncode : Prop :=
  ∀ (c : Config) (i : Instr), i.wf c = true → decode (encode i) = .instr i

/-- Every code has one meaning: what the decoder accepts is what the encoder writes. -/
def Obligations.EncodeDecode : Prop :=
  ∀ (code : Code) (i : Instr), decode code = .instr i → encode i = code

/-- Words written out from 30_encoding.md R81, R82 and R85, and what they stand for. -/
def Obligations.SampleWordsDecode : Prop :=
  decodeTableWord 16 0x3113 = some (.read 0x113) ∧
    decodeTableWord 16 0xCFFF = some (.writeEEPROM 0xFFF) ∧
    decode (.tx [0x60, 0x0E, 0x12]) = .instr (.write 0x00E (.one 0x12)) ∧
    decode (.tx [0xA0, 0x03, 0x00, 0x00, 0x00, 0x00]) = .instr (.continuousRead 0x003 6) ∧
    decodeTableWord 8 0x8 = some .abzResWrite

/-- 30_encoding.md R82, R84: the reserved REQ_OP codes are exactly 0x0 and 0x9 to 0xF. -/
def Obligations.ReservedOperationCodes : Prop :=
  ∀ op : BitVec 4,
    decode (.reqOp op) = .rejected (.reservedOperation op) ↔ op = 0 ∨ 9 ≤ op.toNat

/-- 30_encoding.md R84, and that every legal request is an instruction. -/
def Obligations.LegalRequests : Prop :=
  ∀ (c : Config) (r : Request),
    (legal c r = true ↔
      (r.op = 0x1 ∨ r.op = 0x2 ∨ r.op = 0x3 ∨ r.op = 0x4 ∨ r.op = 0x5 ∨ r.op = 0x6 ∨ r.op = 0x7 ∨
        r.op = 0x8) ∧
        (r.op ≠ 0x3 ∨ (3 ≤ r.tlen.toNat ∧ r.tlen.toNat ≤ c.burstMaxTotal))) ∧
    (legal c r = true → ∃ i, decode (.reqOp r.op) = .instr i ∧ isHostOp i = true)

/-- 40_command_frame.md R102 and 60_exceptions.md R205 for the packer: refused, never truncated. Which
operand is named where both are too wide is notes/assumptions/12.md. -/
def Obligations.PackerRefusesWideOperands : Prop :=
  (∀ (op : Opcode) (a : Nat), a < 0x1000 →
    packChecked op.code.toNat a = .ok (pack op (BitVec.ofNat 12 a))) ∧
  (∀ (op : Opcode) (a : Nat), 0x1000 ≤ a →
    packChecked op.code.toNat a = .error (.operandOutOfRange .addr a)) ∧
  (∀ op a : Nat, (∀ o : Opcode, o.code.toNat ≠ op) →
    packChecked op a = .error (.operandOutOfRange .opcode op))

/-! ### Data formats -/

/-- 43_config.md R181 and 30_encoding.md R88: the formula, the fields and the injectivity (the flag
positions are the spec's decision D11; the injectivity is its own derivation). -/
def Obligations.AbzWordFields : Prop :=
  (∀ (res : Resolution) (sw off : Bool),
    abzWord res sw off = abzFormula res sw off ∧
      (abzWord res sw off).extractLsb' 2 14 = res ∧ (abzWord res sw off).getLsbD 1 = off ∧
      (abzWord res sw off).getLsbD 0 = sw) ∧
  (∀ (r₁ r₂ : Resolution) (s₁ s₂ o₁ o₂ : Bool),
    abzWord r₁ s₁ o₁ = abzWord r₂ s₂ o₂ → r₁ = r₂ ∧ s₁ = s₂ ∧ o₁ = o₂)

/-- 43_config.md R184 for the ABZ packer: refused, never truncated. Which operand is named where several
are too wide is notes/assumptions/12.md. -/
def Obligations.AbzPackerRefusesWideOperands : Prop :=
  ∀ res sw off : Nat,
    (res ≤ 0x3FFF → sw ≤ 1 → off ≤ 1 →
      abzWordChecked res sw off = .ok (BitVec.ofNat 16 (4 * res + 2 * off + sw))) ∧
    (0x3FFF < res → abzWordChecked res sw off = .error (.operandOutOfRange .res res)) ∧
    (res ≤ 0x3FFF → 1 < sw → abzWordChecked res sw off = .error (.operandOutOfRange .abSwap sw)) ∧
    (res ≤ 0x3FFF → sw ≤ 1 → 1 < off →
      abzWordChecked res sw off = .error (.operandOutOfRange .abzOff off))

/-- 42_angle.md R152: the formula, the sum without carries, and that b2[2:0] does not reach it. -/
def Obligations.RawAngleFormula : Prop :=
  ∀ x : Sample,
    rawAngle x = angleFormula x.angleHigh x.angleMid x.angleLowStatus ∧
      (rawAngle x).toNat =
        x.angleHigh.toNat * 8192 + x.angleMid.toNat * 32 + x.angleLowStatus.toNat / 8 ∧
      ∀ b : Byte, b.extractLsb' 3 5 = x.angleLowStatus.extractLsb' 3 5 →
        rawAngle { x with angleLowStatus := b } = rawAngle x

/-- 20_memory.md R63 (the spec's own derivation): where the angle and the status lie in the three
bytes. -/
def Obligations.AngleRegisterLayout : Prop :=
  ∀ x : Sample,
    x.angleHigh = (rawAngle x).extractLsb' 13 8 ∧ x.angleMid = (rawAngle x).extractLsb' 5 8 ∧
      x.angleLowStatus = (rawAngle x).extractLsb' 0 5 ++ statusField x

/-- 42_angle.md R150, the values it derives for its default parameters, and the example of R150. -/
def Obligations.CrcReferenceValues : Prop :=
  crc8 Config.atReset [] = 0x00 ∧ crc8 Config.atReset [0x00, 0x00, 0x00] = 0x00 ∧
    crc8 Config.atReset [0x01] = 0x07 ∧ crc8 Config.atReset [0x80] = 0x89 ∧
    crc8 Config.atReset [0x31, 0x32, 0x33, 0x34, 0x35, 0x36, 0x37, 0x38, 0x39] = 0xF4 ∧
    crc8 Config.atReset [0x12, 0x34, 0x58] = 0x56

/-- 42_angle.md R150, derived: without a final XOR, a byte sequence followed by its own CRC has
CRC 0. -/
def Obligations.AppendedCrcChecks : Prop :=
  ∀ (c : Config) (xs : List Byte), c.crcXorOut = 0 → crc8 c (xs ++ [crc8 c xs]) = 0

/-- 42_angle.md R150 and R151, derived: under a polynomial whose low bit is 1 (the default's is), a
change confined to one data byte changes the CRC. -/
def Obligations.CrcCatchesOneByte : Prop :=
  ∀ (c : Config) (pre post : List Byte) (b b' : Byte), c.crcPoly.getLsbD 0 = true → b ≠ b' →
    crc8 c (pre ++ b :: post) ≠ crc8 c (pre ++ b' :: post)

/-! ### The host -/

/-- 10_state.md R29: a START while BUSY = 0. -/
def Obligations.StartLatchesAndChecks : Prop :=
  ∀ (s : State) (rest : List HostAction),
    s.raised = none → s.hostQueue = .start :: rest → s.busy = false →
    ∃ t, step s = .next t ∧ t.cur = s.req ∧ t.stepIdx = 0 ∧ t.sacc = Sample.zero ∧
      t.req = s.req ∧ t.out = s.out ∧ t.last = s.last ∧ t.raised = none ∧ t.hostQueue = rest ∧
      t.inFlight = s.inFlight ∧ t.command = s.command ∧ t.cfg = s.cfg ∧ t.answers = s.answers ∧
      t.draws = s.draws ∧
      (legal s.cfg s.req = true → t.busy = true ∧ t.done = false ∧ t.result = .noResult) ∧
      (legal s.cfg s.req = false → t.busy = false ∧ t.done = true ∧ t.result = .illegalOp)

/-- 60_exceptions.md R203: a request that is not legal ends at START. -/
def Obligations.IllegalRequestsEndAtStart : Prop :=
  ∀ (s : State) (rest : List HostAction),
    s.raised = none → s.hostQueue = .start :: rest → s.busy = false →
    (s.req.op = 0x0 ∨ 9 ≤ s.req.op.toNat ∨
      (s.req.op = 0x3 ∧ (s.req.tlen.toNat < 3 ∨ s.cfg.burstMaxTotal < s.req.tlen.toNat))) →
    ∃ t, step s = .next t ∧ t.result = .illegalOp ∧ t.done = true ∧ t.busy = false ∧
      t.cur = s.req ∧ t.out = s.out ∧ t.last = s.last ∧ t.inFlight = s.inFlight ∧
      t.answers = s.answers ∧ t.draws = s.draws ∧ t.hostQueue = rest

/-- 60_exceptions.md R204 and 10_state.md R47: a START while BUSY = 1 sets FAULTED and changes
nothing else of the block. That every step of a faulted machine, a reset included, answers the fault is
R47 as the model reads it (notes/assumptions/8.md). -/
def Obligations.StartWhileBusyFaults : Prop :=
  (∀ (s : State) (rest : List HostAction),
    s.raised = none → s.hostQueue = .start :: rest → s.busy = true →
      step s = .next { s with hostQueue := rest, raised := some .startWhileBusy }) ∧
  (∀ (s : State) (f : Fault), s.raised = some f → step s = .fault f)

/-- 10_state.md R21 and 60_exceptions.md R205: host writes. An RW register reads back what was
written and no other register changes, a value too wide raises OperandOutOfRange, and an RO register
ignores the write. That the fault covers all seven RW registers is 93_implementation_defined.md I2, and
the field it names is notes/assumptions/12.md. -/
def Obligations.HostWrites : Prop :=
  ∀ (s : State) (rest : List HostAction) (r : HostReg) (v : Nat),
    s.raised = none → s.hostQueue = .write r v :: rest →
    (∀ w f, rwField r = some (w, f) → v < 2 ^ w →
      ∃ q, step s = .next { s with req := q, hostQueue := rest } ∧
        hostRead { s with req := q, hostQueue := rest } r = some v ∧
        ∀ r', r' ≠ r → hostRead { s with req := q, hostQueue := rest } r' = hostRead s r') ∧
    (∀ w f, rwField r = some (w, f) → 2 ^ w ≤ v →
      step s = .next { s with hostQueue := rest, raised := some (.operandOutOfRange f v) }) ∧
    (rwField r = none → step s = .next { s with hostQueue := rest })

/-- 10_state.md R52: a host read has no effect, whatever runs. -/
def Obligations.HostReadsHaveNoEffect : Prop :=
  ∀ (s : State) (rest : List HostAction) (r : HostReg),
    s.raised = none → s.hostQueue = .read r :: rest → step s = .next { s with hostQueue := rest }

/-- 10_state.md R50 and 70_reset_and_hazards.md R240 (the values are the spec's decision D28): what
reset leaves, under every value of the parameters, and that the block then waits for a START. -/
def Obligations.ResetValues : Prop :=
  ∀ c : Config,
    (∀ r v, hostRead (State.resetWith c) r = some v → v = 0) ∧
      (State.resetWith c).result = .noResult ∧ (State.resetWith c).cur = Request.zero ∧
      (State.resetWith c).stepIdx = 0 ∧ (State.resetWith c).sacc = Sample.zero ∧
      (State.resetWith c).raised = none ∧ (State.resetWith c).inFlight = false ∧
      step (State.resetWith c) = .next (State.resetWith c)

/-- 70_reset_and_hazards.md R240 and R241: a reset at any time, also while BUSY = 1, abandons the
running operation; the parameters, the host's queue and the transport stay (notes/assumptions/14.md). -/
def Obligations.ResetAtAnyTime : Prop :=
  ∀ (s : State) (rest : List HostAction), s.raised = none → s.hostQueue = .reset :: rest →
    step s = .next
      { State.resetWith s.cfg with hostQueue := rest, answers := s.answers, draws := s.draws }

/-- 10_state.md R47: FAULTED is set only by a START while BUSY = 1 or by a value too wide. -/
def Obligations.FaultsOnlyFromBrokenDuties : Prop :=
  ∀ (s t : State) (f : Fault), s.raised = none → step s = .next t → t.raised = some f →
    (∃ rest, s.hostQueue = .start :: rest ∧ s.busy = true ∧ f = .startWhileBusy) ∨
    (∃ r v w fld rest, s.hostQueue = .write r v :: rest ∧ rwField r = some (w, fld) ∧ 2 ^ w ≤ v ∧
      f = .operandOutOfRange fld v)

/-- 30_encoding.md R90 and R91 (the syntax is the spec's decision D23): from any quiet state each line
brings the block to its running operation, its operands in the fields of CUR it names and the other
fields as REQ_* had them; a BURST_READ line of an illegal length is refused by its START; and the
pseudo-operations are their expansions. The number of steps is one per host action
(notes/assumptions/1.md), and the order of the operands' writes is notes/assumptions/16.md. -/
def Obligations.ProgramLines : Prop :=
  (∀ (s : State) (rest : List HostAction), s.raised = none → s.busy = false →
    (∀ a, a < 0x1000 → s.hostQueue = lineActions (.regRead a) ++ rest →
      Sys2Proof.core.run 3 s = .next
        (startedWith { s.req with op := 0x1, addr := BitVec.ofNat 12 a } rest s)) ∧
    (∀ a v, a < 0x1000 → v < 0x100 → s.hostQueue = lineActions (.regWrite a v) ++ rest →
      Sys2Proof.core.run 4 s = .next
        (startedWith
          { s.req with op := 0x2, addr := BitVec.ofNat 12 a, wdata := BitVec.ofNat 8 v } rest s)) ∧
    (∀ a n, a < 0x1000 → n < 0x100 → s.hostQueue = lineActions (.burstRead a n) ++ rest →
      Sys2Proof.core.run 4 s = .next
        (if 3 ≤ n ∧ n ≤ s.cfg.burstMaxTotal then
          startedWith
            { s.req with op := 0x3, addr := BitVec.ofNat 12 a, tlen := BitVec.ofNat 8 n } rest s
        else
          refusedWith
            { s.req with op := 0x3, addr := BitVec.ofNat 12 a, tlen := BitVec.ofNat 8 n }
            rest s)) ∧
    (∀ a, a < 0x1000 → s.hostQueue = lineActions (.eepromWrite a) ++ rest →
      Sys2Proof.core.run 3 s = .next
        (startedWith { s.req with op := 0x4, addr := BitVec.ofNat 12 a } rest s)) ∧
    (∀ a, a < 0x1000 → s.hostQueue = lineActions (.setZero a) ++ rest →
      Sys2Proof.core.run 3 s = .next
        (startedWith { s.req with op := 0x5, addr := BitVec.ofNat 12 a } rest s)) ∧
    (s.hostQueue = lineActions .angleReadBurst ++ rest →
      Sys2Proof.core.run 2 s = .next (startedWith { s.req with op := 0x6 } rest s)) ∧
    (s.hostQueue = lineActions .angleReadBytewise ++ rest →
      Sys2Proof.core.run 2 s = .next (startedWith { s.req with op := 0x7 } rest s)) ∧
    (∀ r sw off, r < 0x4000 → sw < 2 → off < 2 →
      s.hostQueue = lineActions (.abzResWrite r sw off) ++ rest →
      Sys2Proof.core.run 5 s = .next
        (startedWith
          { s.req with
            op := 0x8, res := BitVec.ofNat 14 r, abSwap := sw == 1, abzOff := off == 1 }
          rest s))) ∧
  lineActions .readCalStatus = lineActions (.regRead addrCalibrationStatus.toNat) ∧
  lineActions .readUserId = lineActions (.regRead addrUserId.toNat) ∧
  lineActions .eepromWriteNoOperand = lineActions (.eepromWrite 0) ∧
  lineActions .setZeroNoOperand = lineActions (.setZero 0) ∧
  lineActions .angleRead = lineActions .angleReadBurst

/-! ### The wire commands -/

/-- 40_command_frame.md R106: Read. How a bare command runs is notes/assumptions/9.md. -/
def Obligations.ReadCommand : Prop :=
  ∀ (a : Addr) (s : State),
    encode (.read a) = .tx [0x30 ||| addrHigh a, addrLow a, padByte] ∧
      BareCompletes (.read a) s [0x30 ||| addrHigh a, addrLow a, padByte]

/-- 40_command_frame.md R107: Write, in its two forms. How a bare command runs is notes/assumptions/9.md. -/
def Obligations.WriteCommand : Prop :=
  ∀ (a : Addr) (v v0 v1 : Byte) (s : State),
    encode (.write a (.one v)) = .tx [0x60 ||| addrHigh a, addrLow a, v] ∧
      BareCompletes (.write a (.one v)) s [0x60 ||| addrHigh a, addrLow a, v] ∧
      encode (.write a (.two v0 v1)) = .tx [0x60 ||| addrHigh a, addrLow a, v0, v1] ∧
      BareCompletes (.write a (.two v0 v1)) s [0x60 ||| addrHigh a, addrLow a, v0, v1]

/-- 40_command_frame.md R108: WriteEEPROM (the transaction is the spec's decision D8). How a bare command runs
is notes/assumptions/9.md. -/
def Obligations.WriteEepromCommand : Prop :=
  ∀ (a : Addr) (s : State),
    encode (.writeEEPROM a) = .tx [0xC0 ||| addrHigh a, addrLow a, padByte] ∧
      BareCompletes (.writeEEPROM a) s [0xC0 ||| addrHigh a, addrLow a, padByte]

/-- 40_command_frame.md R109: SetZeroPoint (the transaction is the spec's decision D8). How a bare command runs
is notes/assumptions/9.md. -/
def Obligations.SetZeroPointCommand : Prop :=
  ∀ (a : Addr) (s : State),
    encode (.setZeroPoint a) = .tx [0x50 ||| addrHigh a, addrLow a, padByte] ∧
      BareCompletes (.setZeroPoint a) s [0x50 ||| addrHigh a, addrLow a, padByte]

/-- 40_command_frame.md R110: ContinuousRead of a legal length N, an exchange of N bytes. How a bare command runs is notes/assumptions/9.md. -/
def Obligations.ContinuousReadCommand : Prop :=
  ∀ (a : Addr) (n : Byte) (s : State), (Instr.continuousRead a n).wf s.cfg = true →
    encode (.continuousRead a n) =
        .tx ([0xA0 ||| addrHigh a, addrLow a] ++ List.replicate (n.toNat - 2) padByte) ∧
      ([0xA0 ||| addrHigh a, addrLow a] ++ List.replicate (n.toNat - 2) padByte).length = n.toNat ∧
      BareCompletes (.continuousRead a n) s
        ([0xA0 ||| addrHigh a, addrLow a] ++ List.replicate (n.toNat - 2) padByte)

/-! ### The register-access operations -/

/-- 41_register_access.md R122: REG_READ. -/
def Obligations.RegReadOperation : Prop :=
  encode .regRead = .reqOp 0x1 ∧ NeverIllegal 0x1 ∧
  ∀ s : State,
    (∀ g, nextAnswer s = .ok g → ∃ t, exec .regRead s = .next t ∧
      t.out = { s.out with rdData := byteAt (receive s 3 g) 2 } ∧ Ended .ok t ∧
      Answered s t [0x30 ||| addrHigh s.cur.addr, addrLow s.cur.addr, padByte] (receive s 3 g) ∧
      t.sacc = s.sacc ∧ t.command = s.command) ∧
    EndsOnErr .regRead s [0x30 ||| addrHigh s.cur.addr, addrLow s.cur.addr, padByte]

/-- 41_register_access.md R123: REG_WRITE (that the ACK is not checked is the spec's decision D15). -/
def Obligations.RegWriteOperation : Prop :=
  encode .regWrite = .reqOp 0x2 ∧ NeverIllegal 0x2 ∧
  ∀ s : State,
    (∀ g, nextAnswer s = .ok g → ∃ t, exec .regWrite s = .next t ∧
      t.out = { s.out with ack := byteAt (receive s 3 g) 2 } ∧ Ended .ok t ∧
      Answered s t [0x60 ||| addrHigh s.cur.addr, addrLow s.cur.addr, s.cur.wdata]
        (receive s 3 g) ∧
      t.sacc = s.sacc ∧ t.command = s.command) ∧
    EndsOnErr .regWrite s [0x60 ||| addrHigh s.cur.addr, addrLow s.cur.addr, s.cur.wdata]

/-- 41_register_access.md R124: BURST_READ of a legal length, and its refusal at START otherwise (the
bounds are the spec's decision D16). -/
def Obligations.BurstReadOperation : Prop :=
  encode .burstRead = .reqOp 0x3 ∧
  ∀ s : State,
    (3 ≤ s.cur.tlen.toNat → s.cur.tlen.toNat ≤ s.cfg.burstMaxTotal →
      (∀ g, nextAnswer s = .ok g → ∃ t, exec .burstRead s = .next t ∧
        t.out.burstCount.toNat = s.cur.tlen.toNat - 2 ∧
        t.out.burstData.length = s.cfg.burstMaxTotal - 2 ∧
        (∀ i, i < s.cfg.burstMaxTotal - 2 → byteAt t.out.burstData i =
          if i < s.cur.tlen.toNat - 2 then byteAt (receive s s.cur.tlen.toNat g) (2 + i) else 0) ∧
        t.out = { s.out with burstCount := t.out.burstCount, burstData := t.out.burstData } ∧
        Ended .ok t ∧
        Answered s t ([0xA0 ||| addrHigh s.cur.addr, addrLow s.cur.addr] ++
          List.replicate (s.cur.tlen.toNat - 2) padByte) (receive s s.cur.tlen.toNat g) ∧
        t.sacc = s.sacc ∧ t.command = s.command) ∧
      EndsOnErr .burstRead s ([0xA0 ||| addrHigh s.cur.addr, addrLow s.cur.addr] ++
        List.replicate (s.cur.tlen.toNat - 2) padByte)) ∧
    (s.busy = false → s.req.op = 0x3 →
      (s.req.tlen.toNat < 3 ∨ s.cfg.burstMaxTotal < s.req.tlen.toNat) →
      (startOp s).result = .illegalOp ∧ (startOp s).done = true ∧ (startOp s).busy = false ∧
        (startOp s).last = s.last ∧ (startOp s).out = s.out)

/-- 41_register_access.md R125: EEPROM_WRITE (the transaction is the spec's decision D8). -/
def Obligations.EepromWriteOperation : Prop :=
  encode .eepromWrite = .reqOp 0x4 ∧ NeverIllegal 0x4 ∧
  ∀ s : State,
    (∀ g, nextAnswer s = .ok g → ∃ t, exec .eepromWrite s = .next t ∧
      t.out = { s.out with ack := byteAt (receive s 3 g) 2 } ∧ Ended .ok t ∧
      Answered s t [0xC0 ||| addrHigh s.cur.addr, addrLow s.cur.addr, padByte] (receive s 3 g) ∧
      t.sacc = s.sacc ∧ t.command = s.command) ∧
    EndsOnErr .eepromWrite s [0xC0 ||| addrHigh s.cur.addr, addrLow s.cur.addr, padByte]

/-- 41_register_access.md R126: SET_ZERO (the transaction is the spec's decision D8). -/
def Obligations.SetZeroOperation : Prop :=
  encode .setZero = .reqOp 0x5 ∧ NeverIllegal 0x5 ∧
  ∀ s : State,
    (∀ g, nextAnswer s = .ok g → ∃ t, exec .setZero s = .next t ∧
      t.out = { s.out with ack := byteAt (receive s 3 g) 2 } ∧ Ended .ok t ∧
      Answered s t [0x50 ||| addrHigh s.cur.addr, addrLow s.cur.addr, padByte] (receive s 3 g) ∧
      t.sacc = s.sacc ∧ t.command = s.command) ∧
    EndsOnErr .setZero s [0x50 ||| addrHigh s.cur.addr, addrLow s.cur.addr, padByte]

/-! ### The angle operations and the ABZ write -/

/-- 42_angle.md R157, R158 and R159: the three outcomes of the validation step both operations end
with. -/
def Obligations.AngleValidation : Prop :=
  ∀ (x : Sample) (s : State),
    (crc8 s.cfg [x.angleHigh, x.angleMid, x.angleLowStatus] ≠ x.crc →
      (angleComplete x s).result = .crcError ∧
        (angleComplete x s).out.angleRaw = s.out.angleRaw ∧
        (angleComplete x s).out.angleStatus = s.out.angleStatus ∧
        (angleComplete x s).out.sample = x ∧
        (angleComplete x s).out.crcCalc =
          crc8 s.cfg [x.angleHigh, x.angleMid, x.angleLowStatus]) ∧
    (crc8 s.cfg [x.angleHigh, x.angleMid, x.angleLowStatus] = x.crc →
      x.angleLowStatus.extractLsb' 0 3 ≠ 0 →
      (angleComplete x s).result = .sensorStatus ∧
        (angleComplete x s).out.angleStatus = x.angleLowStatus.extractLsb' 0 3 ∧
        (angleComplete x s).out.angleRaw = s.out.angleRaw) ∧
    (crc8 s.cfg [x.angleHigh, x.angleMid, x.angleLowStatus] = x.crc →
      x.angleLowStatus.extractLsb' 0 3 = 0 →
      (angleComplete x s).result = .ok ∧ (angleComplete x s).out.angleStatus = 0 ∧
        (angleComplete x s).out.angleRaw =
          angleFormula x.angleHigh x.angleMid x.angleLowStatus)

/-- 42_angle.md R160 with R156 to R159: ANGLE_READ_BURST (address and length are the spec's decision
D6). -/
def Obligations.AngleReadBurstOperation : Prop :=
  encode .angleReadBurst = .reqOp 0x6 ∧ NeverIllegal 0x6 ∧
  ∀ s : State,
    (∀ g, nextAnswer s = .ok g → ∃ t, exec .angleReadBurst s = .next t ∧
      AngleOutcome s.cfg
        { angleHigh := byteAt (receive s 6 g) 2, angleMid := byteAt (receive s 6 g) 3
          angleLowStatus := byteAt (receive s 6 g) 4, crc := byteAt (receive s 6 g) 5 } s.out t ∧
      Answered s t [0xA0, 0x03, padByte, padByte, padByte, padByte] (receive s 6 g) ∧
      t.sacc = s.sacc ∧ t.command = s.command) ∧
    EndsOnErr .angleReadBurst s [0xA0, 0x03, padByte, padByte, padByte, padByte]

/-- 42_angle.md R165 and R166 with R156 to R159: ANGLE_READ_BYTEWISE, exchange STEP of four (the
order is the spec's decision D7). -/
def Obligations.AngleReadBytewiseOperation : Prop :=
  encode .angleReadBytewise = .reqOp 0x7 ∧ NeverIllegal 0x7 ∧
  ∀ s : State,
    (∀ g, nextAnswer s = .ok g → s.stepIdx.toNat < 3 →
      ∃ t, exec .angleReadBytewise s = .next t ∧ t.stepIdx.toNat = s.stepIdx.toNat + 1 ∧
        (∀ k, k < 4 → byteAt (sampleBytes t.sacc) k =
          if k = s.stepIdx.toNat then byteAt (receive s 3 g) 2 else byteAt (sampleBytes s.sacc) k) ∧
        t.busy = s.busy ∧ t.done = s.done ∧ t.result = s.result ∧ t.out = s.out ∧
        t.inFlight = false ∧ t.command = s.command ∧
        Answered s t [0x30, 0x03 + s.stepIdx.zeroExtend 8, padByte] (receive s 3 g)) ∧
    (∀ g, nextAnswer s = .ok g → s.stepIdx = 3 →
      ∃ t, exec .angleReadBytewise s = .next t ∧
        t.sacc = { s.sacc with crc := byteAt (receive s 3 g) 2 } ∧
        AngleOutcome s.cfg t.sacc s.out t ∧ t.command = s.command ∧
        Answered s t [0x30, 0x06, padByte] (receive s 3 g)) ∧
    EndsOnErr .angleReadBytewise s [0x30, 0x03 + s.stepIdx.zeroExtend 8, padByte]

/-- 43_config.md R180, R182 and R183: ABZ_RES_WRITE (flag and byte order are the spec's decisions D11
and D12). -/
def Obligations.AbzResWriteOperation : Prop :=
  encode .abzResWrite = .reqOp 0x8 ∧ NeverIllegal 0x8 ∧
  ∀ s : State,
    (∀ g, nextAnswer s = .ok g → ∃ t, exec .abzResWrite s = .next t ∧ t.out = s.out ∧
      Ended .ok t ∧
      Answered s t [0x60, 0x07,
        (abzFormula s.cur.res s.cur.abSwap s.cur.abzOff).extractLsb' 8 8,
        (abzFormula s.cur.res s.cur.abSwap s.cur.abzOff).extractLsb' 0 8] (receive s 4 g) ∧
      t.sacc = s.sacc ∧ t.command = s.command) ∧
    EndsOnErr .abzResWrite s [0x60, 0x07,
      (abzFormula s.cur.res s.cur.abSwap s.cur.abzOff).extractLsb' 8 8,
      (abzFormula s.cur.res s.cur.abSwap s.cur.abzOff).extractLsb' 0 8]

/-! ### The transport's other answers -/

/-- 60_exceptions.md R202 for every host operation (that there is one code is the spec's decision
D19): an Err ends with TRANSPORT_ERROR and writes no other result register; LAST_RX keeps its length
and is of unstated content. -/
def Obligations.TransportErrorEnds : Prop :=
  ∀ (i : Instr) (s : State), isHostOp i = true → nextAnswer s = .err →
    ∃ t, exec i s = .next t ∧ Ended .transportError t ∧ t.out = s.out ∧ t.sacc = s.sacc ∧
      t.last.rx.length = s.cfg.burstMaxTotal ∧ t.command = s.command ∧ KeepsOutside s t ∧
      DrawTaken s t

/-- 70_reset_and_hazards.md R246 and 10_state.md R52: while the transport gives no answer, nothing
ends, and LAST_LEN and LAST_TX show the exchange once it is sent (notes/assumptions/3.md). Its tx bytes
are `txOf i s`, as ReadCommand to AbzResWriteOperation give them for each instruction. -/
def Obligations.NoAnswerKeepsWaiting : Prop :=
  ∀ (i : Instr) (s : State), nextAnswer s = .noAnswer →
    ∃ t, exec i s = .next t ∧ KeepsStatus s t ∧ ShowsTx s t (txOf i s) ∧ t.out = s.out ∧
      t.sacc = s.sacc ∧ t.last.rx = s.last.rx ∧ t.inFlight = true ∧ t.command = s.command ∧
      KeepsOutside s t ∧ DrawTaken s t

/-- Every instruction answers a next state in every state, and none touches the parameters, REQ_*,
CUR, FAULTED or the host's queue (10_state.md R44, R48; 60_exceptions.md R200). That exec does not test
again what enables the step of 41_register_access.md R120 is notes/assumptions/13.md, and that an
exchange without an answer gives a next state too is notes/assumptions/3.md. -/
def Obligations.EveryInstructionRuns : Prop :=
  ∀ (i : Instr) (s : State), ∃ t, exec i s = .next t ∧ KeepsOutside s t ∧ DrawTaken s t

/-! ### The step -/

/-- In the sequencer's turn the step runs the instruction found: a bare command first, else the
operation in CUR while BUSY = 1 (10_state.md R45, 41_register_access.md R120); an idle block stays as
it is. -/
def Obligations.StepRunsDecoded : Prop :=
  ∀ s t : State, SequencerTurn s t →
    (∀ bytes i, s.command = some bytes → decode (.tx bytes) = .instr i → i.wf s.cfg = true →
      step s = exec i t) ∧
    (∀ i, s.command = none → s.busy = true → legal s.cfg s.cur = true →
      decode (.reqOp s.cur.op) = .instr i → step s = exec i t) ∧
    (s.command = none → s.busy = false → step s = .next t)

/-- The invariant holds at reset, under every allowed value of the parameters. -/
def Obligations.InvAtReset : Prop :=
  (∀ c : Config, c.wf = true → (State.resetWith c).Inv) ∧ State.reset.Inv

/-- Every step keeps the invariant. -/
def Obligations.StepKeepsInv : Prop :=
  ∀ s t : State, s.Inv → step s = .next t → t.Inv

/-- 10_state.md R38: CRC_CALC is always the CRC of SAMPLE's data bytes, where three zero bytes have
CRC 0, as under the default parameters (the spec's own derivation); reset leaves it so. -/
def Obligations.StepKeepsCrcAgreement : Prop :=
  (∀ c : Config, crc8 c [0, 0, 0] = 0 → CrcAgrees (State.resetWith c)) ∧
  (∀ s t : State, crc8 s.cfg [0, 0, 0] = 0 → CrcAgrees s → step s = .next t → CrcAgrees t) ∧
  crc8 Config.atReset [0, 0, 0] = 0

/-- 10_state.md R33 to R40: outside a reset, each result register changes only in the step that ends
an operation of its own, with the code its rule names. -/
def Obligations.ResultsHaveTheirWriters : Prop :=
  ∀ s t : State, step s = .next t → s.hostQueue.head? ≠ some .reset →
    (t.out.rdData ≠ s.out.rdData → s.busy = true ∧ s.cur.op = 0x1 ∧ Ended .ok t) ∧
    (t.out.ack ≠ s.out.ack →
      s.busy = true ∧ (s.cur.op = 0x2 ∨ s.cur.op = 0x4 ∨ s.cur.op = 0x5) ∧ Ended .ok t) ∧
    (t.out.burstCount ≠ s.out.burstCount ∨ t.out.burstData ≠ s.out.burstData →
      s.busy = true ∧ s.cur.op = 0x3 ∧ Ended .ok t) ∧
    (t.out.sample ≠ s.out.sample ∨ t.out.crcCalc ≠ s.out.crcCalc →
      s.busy = true ∧ (s.cur.op = 0x6 ∨ s.cur.op = 0x7) ∧ t.done = true) ∧
    (t.out.angleStatus ≠ s.out.angleStatus →
      s.busy = true ∧ (s.cur.op = 0x6 ∨ s.cur.op = 0x7) ∧ (Ended .ok t ∨ Ended .sensorStatus t)) ∧
    (t.out.angleRaw ≠ s.out.angleRaw →
      s.busy = true ∧ (s.cur.op = 0x6 ∨ s.cur.op = 0x7) ∧ Ended .ok t)

/-- 10_state.md R30: only a legal START sets BUSY, and only an ending or a reset clears it. -/
def Obligations.BusyChanges : Prop :=
  ∀ s t : State, step s = .next t →
    (s.busy = false → t.busy = true →
      s.hostQueue.head? = some .start ∧ legal s.cfg s.req = true) ∧
    (s.busy = true → t.busy = false →
      (t.done = true ∧ t.result ≠ .noResult) ∨ s.hostQueue.head? = some .reset)

/-- 10_state.md R44, R48 and 00_scope.md R6: CUR changes only at a START or a reset, REQ_* only by a
host write or a reset, and the parameters never. -/
def Obligations.RequestsChangeOnlyByTheHost : Prop :=
  ∀ s t : State, step s = .next t →
    t.cfg = s.cfg ∧
    (t.cur ≠ s.cur → s.hostQueue.head? = some .start ∨ s.hostQueue.head? = some .reset) ∧
    (t.req ≠ s.req →
      (∃ r v, s.hostQueue.head? = some (.write r v)) ∨ s.hostQueue.head? = some .reset)

/-- 70_reset_and_hazards.md R247: other REQ_* values during an operation change nothing but REQ_*,
and the next START takes them. -/
def Obligations.RequestWritesDoNotDisturb : Prop :=
  (∀ (i : Instr) (s : State) (q : Request),
    ∃ t, exec i s = .next t ∧ exec i { s with req := q } = .next { t with req := q }) ∧
  (∀ (s : State) (q : Request) (rest : List HostAction),
    s.raised = none → s.hostQueue = .start :: rest → s.busy = false →
    ∃ t, step { s with req := q } = .next t ∧ t.cur = q)

/-- 40_command_frame.md R105: two answers that differ only in the command-phase bytes rx[0] and rx[1]
lead to the same state but for LAST_RX. -/
def Obligations.CommandPhaseDiscarded : Prop :=
  ∀ (i : Instr) (s : State) (x0 x1 y0 y1 : Byte) (g : List Byte) (as : List Answer),
    ∃ t r, exec i (scripted (.ok (x0 :: x1 :: g) :: as) s) = .next t ∧
      exec i (scripted (.ok (y0 :: y1 :: g) :: as) s) =
        .next { t with last := { t.last with rx := r } }

/-- 10_state.md R51: two states that agree in the parameters, CUR, STEP, SACC, BUSY, DONE, RESULT and
the transport send the same exchange and end alike, whatever the other result registers, LAST_* and
REQ_* hold. -/
def Obligations.NoOperationReadsOldResults : Prop :=
  ∀ (i : Instr) (s₁ s₂ : State), isHostOp i = true →
    s₁.cfg = s₂.cfg → s₁.cur = s₂.cur → s₁.stepIdx = s₂.stepIdx → s₁.sacc = s₂.sacc →
    s₁.busy = s₂.busy → s₁.done = s₂.done → s₁.result = s₂.result →
    s₁.answers = s₂.answers → s₁.draws = s₂.draws →
    ∃ t₁ t₂, exec i s₁ = .next t₁ ∧ exec i s₂ = .next t₂ ∧
      t₁.busy = t₂.busy ∧ t₁.done = t₂.done ∧ t₁.result = t₂.result ∧
      t₁.stepIdx = t₂.stepIdx ∧ t₁.sacc = t₂.sacc ∧ t₁.inFlight = t₂.inFlight ∧
      t₁.last.len = t₂.last.len ∧ t₁.last.tx = t₂.last.tx ∧
      SameOrKept s₁.last.rx s₂.last.rx t₁.last.rx t₂.last.rx ∧
      SameOrKept s₁.out.rdData s₂.out.rdData t₁.out.rdData t₂.out.rdData ∧
      SameOrKept s₁.out.ack s₂.out.ack t₁.out.ack t₂.out.ack ∧
      SameOrKept s₁.out.burstCount s₂.out.burstCount t₁.out.burstCount t₂.out.burstCount ∧
      SameOrKept s₁.out.burstData s₂.out.burstData t₁.out.burstData t₂.out.burstData ∧
      SameOrKept s₁.out.sample s₂.out.sample t₁.out.sample t₂.out.sample ∧
      SameOrKept s₁.out.crcCalc s₂.out.crcCalc t₁.out.crcCalc t₂.out.crcCalc ∧
      SameOrKept s₁.out.angleRaw s₂.out.angleRaw t₁.out.angleRaw t₂.out.angleRaw ∧
      SameOrKept s₁.out.angleStatus s₂.out.angleStatus t₁.out.angleStatus t₂.out.angleStatus

/-- 42_angle.md R167 (the spec's own derivation): one burst read and four bytewise exchanges that
receive the same four data bytes leave the same result registers and RESULT. -/
def Obligations.AngleVariantsAgree : Prop :=
  ∀ (s : State) (b0 b1 b2 c : Byte) (x0 x1 y0 y1 y2 y3 z0 z1 z2 z3 : Byte)
    (as as' : List Answer), s.stepIdx = 0 →
    ∃ tb tw,
      exec .angleReadBurst (scripted (.ok [x0, x1, b0, b1, b2, c] :: as) s) = .next tb ∧
      execTimes .angleReadBytewise 4
        (scripted (.ok [y0, z0, b0] :: .ok [y1, z1, b1] :: .ok [y2, z2, b2] ::
          .ok [y3, z3, c] :: as') s) = .next tw ∧
      tb.out = tw.out ∧ tb.result = tw.result ∧ tb.busy = tw.busy ∧ tb.done = tw.done ∧
      tb.stepIdx = tw.stepIdx ∧
      tb.out.sample = { angleHigh := b0, angleMid := b1, angleLowStatus := b2, crc := c } ∧
      tw.last.len.toNat = 3 ∧ tb.last.len.toNat = 6

/-- 30_encoding.md R82 and R86: whatever runs, the two bytes LAST_TX starts with are a frame of the
instruction's own wire opcode, so no undefined opcode is ever sent. -/
def Obligations.OnlyDefinedOpcodesAreSent : Prop :=
  ∀ (i : Instr) (s t : State), s.cfg.wf = true → exec i s = .next t →
    ∃ a, decodeFrame (byteAt t.last.tx 0) (byteAt t.last.tx 1) = some (wireOpcode i, a)

/-- 41_register_access.md R127 (the spec's own derivation): an answered exchange ends every operation,
but for the first three of ANGLE_READ_BYTEWISE answered Ok. -/
def Obligations.OneExchangePerOperation : Prop :=
  ∀ (i : Instr) (s : State), isHostOp i = true → nextAnswer s ≠ .noAnswer →
    s.busy = true → s.done = false →
    ∃ t, exec i s = .next t ∧ (t.done = true ↔ t.busy = false) ∧
      (t.done = false ↔
        i = .angleReadBytewise ∧ s.stepIdx.toNat < 3 ∧ nextAnswer s ≠ .err)

/-- 70_reset_and_hazards.md R246 with 41_register_access.md R127: an operation whose exchanges are all
answered ends after at most four of the sequencer's turns. That the transport answers is the premise. -/
def Obligations.AnsweredOperationsEnd : Prop :=
  ∀ (s : State) (a0 a1 a2 a3 : Answer) (as : List Answer),
    s.raised = none → s.hostQueue = [] → s.command = none → s.busy = true → s.done = false →
    legal s.cfg s.cur = true → s.answers = a0 :: a1 :: a2 :: a3 :: as →
    a0 ≠ .noAnswer → a1 ≠ .noAnswer → a2 ≠ .noAnswer → a3 ≠ .noAnswer →
    ∃ k t, k ≤ 4 ∧ Sys2Proof.core.run k s = .next t ∧ t.busy = false ∧ t.done = true ∧
      t.result ≠ .noResult

/-- 10_state.md R21, R52 and 30_encoding.md R87: what the host sees of each register it can read.
An entry past an array's end does not exist (notes/assumptions/15.md). -/
def Obligations.HostReadsShowRegisters : Prop :=
  ∀ s : State,
    hostRead s .reqOp = some s.req.op.toNat ∧ hostRead s .reqAddr = some s.req.addr.toNat ∧
    hostRead s .reqWdata = some s.req.wdata.toNat ∧ hostRead s .reqTlen = some s.req.tlen.toNat ∧
    hostRead s .reqRes = some s.req.res.toNat ∧
    hostRead s .reqAbSwap = some (if s.req.abSwap then 1 else 0) ∧
    hostRead s .reqAbzOff = some (if s.req.abzOff then 1 else 0) ∧
    hostRead s .busy = some (if s.busy then 1 else 0) ∧
    hostRead s .done = some (if s.done then 1 else 0) ∧
    hostRead s .result = some (resultNumber s.result) ∧
    hostRead s .rdData = some s.out.rdData.toNat ∧ hostRead s .ack = some s.out.ack.toNat ∧
    hostRead s .burstCount = some s.out.burstCount.toNat ∧
    ShowsEntries s .burstData s.out.burstData ∧
    ShowsEntries s .sample
      [s.out.sample.angleHigh, s.out.sample.angleMid, s.out.sample.angleLowStatus,
        s.out.sample.crc] ∧
    hostRead s .crcCalc = some s.out.crcCalc.toNat ∧
    hostRead s .angleRaw = some s.out.angleRaw.toNat ∧
    hostRead s .angleStatus = some s.out.angleStatus.toNat ∧
    hostRead s .lastLen = some s.last.len.toNat ∧
    ShowsEntries s .lastTx s.last.tx ∧ ShowsEntries s .lastRx s.last.rx
end

