-- ==== Sys2Proof/Laws/State.lean ====
section
/-! SUPPORT. One lemma per field and named update of the state, so that no later proof unfolds a record
update. -/

namespace Sys2Proof.Machine

/-! ### raise -/

@[simp] theorem raise_cfg (f : Fault) (s : State) : (raise f s).cfg = s.cfg := rfl
@[simp] theorem raise_req (f : Fault) (s : State) : (raise f s).req = s.req := rfl
@[simp] theorem raise_busy (f : Fault) (s : State) : (raise f s).busy = s.busy := rfl
@[simp] theorem raise_done (f : Fault) (s : State) : (raise f s).done = s.done := rfl
@[simp] theorem raise_result (f : Fault) (s : State) : (raise f s).result = s.result := rfl
@[simp] theorem raise_out (f : Fault) (s : State) : (raise f s).out = s.out := rfl
@[simp] theorem raise_last (f : Fault) (s : State) : (raise f s).last = s.last := rfl
@[simp] theorem raise_cur (f : Fault) (s : State) : (raise f s).cur = s.cur := rfl
@[simp] theorem raise_stepIdx (f : Fault) (s : State) : (raise f s).stepIdx = s.stepIdx := rfl
@[simp] theorem raise_sacc (f : Fault) (s : State) : (raise f s).sacc = s.sacc := rfl
@[simp] theorem raise_inFlight (f : Fault) (s : State) : (raise f s).inFlight = s.inFlight := rfl
@[simp] theorem raise_raised (f : Fault) (s : State) : (raise f s).raised = some f := rfl
@[simp] theorem raise_command (f : Fault) (s : State) : (raise f s).command = s.command := rfl
@[simp] theorem raise_hostQueue (f : Fault) (s : State) : (raise f s).hostQueue = s.hostQueue := rfl
@[simp] theorem raise_answers (f : Fault) (s : State) : (raise f s).answers = s.answers := rfl
@[simp] theorem raise_draws (f : Fault) (s : State) : (raise f s).draws = s.draws := rfl

/-! ### latch -/

@[simp] theorem latch_cfg (s : State) : (latch s).cfg = s.cfg := rfl
@[simp] theorem latch_req (s : State) : (latch s).req = s.req := rfl
@[simp] theorem latch_busy (s : State) : (latch s).busy = s.busy := rfl
@[simp] theorem latch_done (s : State) : (latch s).done = false := rfl
@[simp] theorem latch_result (s : State) : (latch s).result = .noResult := rfl
@[simp] theorem latch_out (s : State) : (latch s).out = s.out := rfl
@[simp] theorem latch_last (s : State) : (latch s).last = s.last := rfl
@[simp] theorem latch_cur (s : State) : (latch s).cur = s.req := rfl
@[simp] theorem latch_stepIdx (s : State) : (latch s).stepIdx = 0 := rfl
@[simp] theorem latch_sacc (s : State) : (latch s).sacc = Sample.zero := rfl
@[simp] theorem latch_inFlight (s : State) : (latch s).inFlight = s.inFlight := rfl
@[simp] theorem latch_raised (s : State) : (latch s).raised = s.raised := rfl
@[simp] theorem latch_command (s : State) : (latch s).command = s.command := rfl
@[simp] theorem latch_hostQueue (s : State) : (latch s).hostQueue = s.hostQueue := rfl
@[simp] theorem latch_answers (s : State) : (latch s).answers = s.answers := rfl
@[simp] theorem latch_draws (s : State) : (latch s).draws = s.draws := rfl

/-! ### sendTx -/

@[simp] theorem sendTx_cfg (tx : List Byte) (s : State) : (sendTx tx s).cfg = s.cfg := rfl
@[simp] theorem sendTx_req (tx : List Byte) (s : State) : (sendTx tx s).req = s.req := rfl
@[simp] theorem sendTx_busy (tx : List Byte) (s : State) : (sendTx tx s).busy = s.busy := rfl
@[simp] theorem sendTx_done (tx : List Byte) (s : State) : (sendTx tx s).done = s.done := rfl
@[simp] theorem sendTx_result (tx : List Byte) (s : State) : (sendTx tx s).result = s.result := rfl
@[simp] theorem sendTx_out (tx : List Byte) (s : State) : (sendTx tx s).out = s.out := rfl
@[simp] theorem sendTx_last (tx : List Byte) (s : State) :
    (sendTx tx s).last =
      { s.last with len := BitVec.ofNat 8 tx.length, tx := fillArray s.cfg.burstMaxTotal tx } := rfl
@[simp] theorem sendTx_cur (tx : List Byte) (s : State) : (sendTx tx s).cur = s.cur := rfl
@[simp] theorem sendTx_stepIdx (tx : List Byte) (s : State) :
    (sendTx tx s).stepIdx =
      s.stepIdx := rfl
@[simp] theorem sendTx_sacc (tx : List Byte) (s : State) : (sendTx tx s).sacc = s.sacc := rfl
@[simp] theorem sendTx_inFlight (tx : List Byte) (s : State) : (sendTx tx s).inFlight = true := rfl
@[simp] theorem sendTx_raised (tx : List Byte) (s : State) : (sendTx tx s).raised = s.raised := rfl
@[simp] theorem sendTx_command (tx : List Byte) (s : State) :
    (sendTx tx s).command =
      s.command := rfl
@[simp] theorem sendTx_hostQueue (tx : List Byte) (s : State) :
    (sendTx tx s).hostQueue =
      s.hostQueue := rfl
@[simp] theorem sendTx_answers (tx : List Byte) (s : State) :
    (sendTx tx s).answers =
      s.answers := rfl
@[simp] theorem sendTx_draws (tx : List Byte) (s : State) : (sendTx tx s).draws = s.draws := rfl

/-! ### storeRx -/

@[simp] theorem storeRx_cfg (rx : List Byte) (s : State) : (storeRx rx s).cfg = s.cfg := rfl
@[simp] theorem storeRx_req (rx : List Byte) (s : State) : (storeRx rx s).req = s.req := rfl
@[simp] theorem storeRx_busy (rx : List Byte) (s : State) : (storeRx rx s).busy = s.busy := rfl
@[simp] theorem storeRx_done (rx : List Byte) (s : State) : (storeRx rx s).done = s.done := rfl
@[simp] theorem storeRx_result (rx : List Byte) (s : State) :
    (storeRx rx s).result =
      s.result := rfl
@[simp] theorem storeRx_out (rx : List Byte) (s : State) : (storeRx rx s).out = s.out := rfl
@[simp] theorem storeRx_last (rx : List Byte) (s : State) :
    (storeRx rx s).last =
      { s.last with rx := fillArray s.cfg.burstMaxTotal rx } := rfl
@[simp] theorem storeRx_cur (rx : List Byte) (s : State) : (storeRx rx s).cur = s.cur := rfl
@[simp] theorem storeRx_stepIdx (rx : List Byte) (s : State) :
    (storeRx rx s).stepIdx =
      s.stepIdx := rfl
@[simp] theorem storeRx_sacc (rx : List Byte) (s : State) : (storeRx rx s).sacc = s.sacc := rfl
@[simp] theorem storeRx_inFlight (rx : List Byte) (s : State) :
    (storeRx rx s).inFlight =
      false := rfl
@[simp] theorem storeRx_raised (rx : List Byte) (s : State) :
    (storeRx rx s).raised =
      s.raised := rfl
@[simp] theorem storeRx_command (rx : List Byte) (s : State) :
    (storeRx rx s).command =
      s.command := rfl
@[simp] theorem storeRx_hostQueue (rx : List Byte) (s : State) :
    (storeRx rx s).hostQueue =
      s.hostQueue := rfl
@[simp] theorem storeRx_answers (rx : List Byte) (s : State) :
    (storeRx rx s).answers =
      s.answers := rfl
@[simp] theorem storeRx_draws (rx : List Byte) (s : State) : (storeRx rx s).draws = s.draws := rfl

/-! ### endOperation -/

@[simp] theorem endOperation_cfg (code : ResultCode) (s : State) :
    (endOperation code s).cfg =
      s.cfg := rfl
@[simp] theorem endOperation_req (code : ResultCode) (s : State) :
    (endOperation code s).req =
      s.req := rfl
@[simp] theorem endOperation_busy (code : ResultCode) (s : State) :
    (endOperation code s).busy =
      false := rfl
@[simp] theorem endOperation_done (code : ResultCode) (s : State) :
    (endOperation code s).done =
      true := rfl
@[simp] theorem endOperation_result (code : ResultCode) (s : State) :
    (endOperation code s).result =
      code := rfl
@[simp] theorem endOperation_out (code : ResultCode) (s : State) :
    (endOperation code s).out =
      s.out := rfl
@[simp] theorem endOperation_last (code : ResultCode) (s : State) :
    (endOperation code s).last =
      s.last := rfl
@[simp] theorem endOperation_cur (code : ResultCode) (s : State) :
    (endOperation code s).cur =
      s.cur := rfl
@[simp] theorem endOperation_stepIdx (code : ResultCode) (s : State) :
    (endOperation code s).stepIdx =
      0 := rfl
@[simp] theorem endOperation_sacc (code : ResultCode) (s : State) :
    (endOperation code s).sacc =
      s.sacc := rfl
@[simp] theorem endOperation_inFlight (code : ResultCode) (s : State) :
    (endOperation code s).inFlight =
      s.inFlight := rfl
@[simp] theorem endOperation_raised (code : ResultCode) (s : State) :
    (endOperation code s).raised =
      s.raised := rfl
@[simp] theorem endOperation_command (code : ResultCode) (s : State) :
    (endOperation code s).command =
      s.command := rfl
@[simp] theorem endOperation_hostQueue (code : ResultCode) (s : State) :
    (endOperation code s).hostQueue =
      s.hostQueue := rfl
@[simp] theorem endOperation_answers (code : ResultCode) (s : State) :
    (endOperation code s).answers =
      s.answers := rfl
@[simp] theorem endOperation_draws (code : ResultCode) (s : State) :
    (endOperation code s).draws =
      s.draws := rfl

/-! ### transportError -/

@[simp] theorem transportError_cfg (s : State) : (transportError s).cfg = s.cfg := rfl
@[simp] theorem transportError_req (s : State) : (transportError s).req = s.req := rfl
@[simp] theorem transportError_busy (s : State) : (transportError s).busy = false := rfl
@[simp] theorem transportError_done (s : State) : (transportError s).done = true := rfl
@[simp] theorem transportError_result (s : State) :
    (transportError s).result =
      .transportError := rfl
@[simp] theorem transportError_out (s : State) : (transportError s).out = s.out := rfl
@[simp] theorem transportError_last (s : State) :
    (transportError s).last =
      { s.last with rx := (List.range s.cfg.burstMaxTotal).map (Config.freeLastRx s.draws) } := rfl
@[simp] theorem transportError_cur (s : State) : (transportError s).cur = s.cur := rfl
@[simp] theorem transportError_stepIdx (s : State) : (transportError s).stepIdx = 0 := rfl
@[simp] theorem transportError_sacc (s : State) : (transportError s).sacc = s.sacc := rfl
@[simp] theorem transportError_inFlight (s : State) : (transportError s).inFlight = false := rfl
@[simp] theorem transportError_raised (s : State) : (transportError s).raised = s.raised := rfl
@[simp] theorem transportError_command (s : State) : (transportError s).command = s.command := rfl
@[simp] theorem transportError_hostQueue (s : State) :
    (transportError s).hostQueue =
      s.hostQueue := rfl
@[simp] theorem transportError_answers (s : State) : (transportError s).answers = s.answers := rfl
@[simp] theorem transportError_draws (s : State) : (transportError s).draws = s.draws := rfl

/-! ### takeAnswer -/

@[simp] theorem takeAnswer_cfg (s : State) : (takeAnswer s).cfg = s.cfg := rfl
@[simp] theorem takeAnswer_req (s : State) : (takeAnswer s).req = s.req := rfl
@[simp] theorem takeAnswer_busy (s : State) : (takeAnswer s).busy = s.busy := rfl
@[simp] theorem takeAnswer_done (s : State) : (takeAnswer s).done = s.done := rfl
@[simp] theorem takeAnswer_result (s : State) : (takeAnswer s).result = s.result := rfl
@[simp] theorem takeAnswer_out (s : State) : (takeAnswer s).out = s.out := rfl
@[simp] theorem takeAnswer_last (s : State) : (takeAnswer s).last = s.last := rfl
@[simp] theorem takeAnswer_cur (s : State) : (takeAnswer s).cur = s.cur := rfl
@[simp] theorem takeAnswer_stepIdx (s : State) : (takeAnswer s).stepIdx = s.stepIdx := rfl
@[simp] theorem takeAnswer_sacc (s : State) : (takeAnswer s).sacc = s.sacc := rfl
@[simp] theorem takeAnswer_inFlight (s : State) : (takeAnswer s).inFlight = s.inFlight := rfl
@[simp] theorem takeAnswer_raised (s : State) : (takeAnswer s).raised = s.raised := rfl
@[simp] theorem takeAnswer_command (s : State) : (takeAnswer s).command = s.command := rfl
@[simp] theorem takeAnswer_hostQueue (s : State) : (takeAnswer s).hostQueue = s.hostQueue := rfl
@[simp] theorem takeAnswer_answers (s : State) : (takeAnswer s).answers = s.answers.tail := rfl
@[simp] theorem takeAnswer_draws (s : State) : (takeAnswer s).draws = s.draws + 1 := rfl

/-! ### dropCommand -/

@[simp] theorem dropCommand_cfg (s : State) : (dropCommand s).cfg = s.cfg := rfl
@[simp] theorem dropCommand_req (s : State) : (dropCommand s).req = s.req := rfl
@[simp] theorem dropCommand_busy (s : State) : (dropCommand s).busy = s.busy := rfl
@[simp] theorem dropCommand_done (s : State) : (dropCommand s).done = s.done := rfl
@[simp] theorem dropCommand_result (s : State) : (dropCommand s).result = s.result := rfl
@[simp] theorem dropCommand_out (s : State) : (dropCommand s).out = s.out := rfl
@[simp] theorem dropCommand_last (s : State) : (dropCommand s).last = s.last := rfl
@[simp] theorem dropCommand_cur (s : State) : (dropCommand s).cur = s.cur := rfl
@[simp] theorem dropCommand_stepIdx (s : State) : (dropCommand s).stepIdx = s.stepIdx := rfl
@[simp] theorem dropCommand_sacc (s : State) : (dropCommand s).sacc = s.sacc := rfl
@[simp] theorem dropCommand_inFlight (s : State) : (dropCommand s).inFlight = s.inFlight := rfl
@[simp] theorem dropCommand_raised (s : State) : (dropCommand s).raised = s.raised := rfl
@[simp] theorem dropCommand_command (s : State) : (dropCommand s).command = none := rfl
@[simp] theorem dropCommand_hostQueue (s : State) : (dropCommand s).hostQueue = s.hostQueue := rfl
@[simp] theorem dropCommand_answers (s : State) : (dropCommand s).answers = s.answers := rfl
@[simp] theorem dropCommand_draws (s : State) : (dropCommand s).draws = s.draws := rfl

/-! ### angleComplete -/

@[simp] theorem angleComplete_cfg (x : Sample) (s : State) : (angleComplete x s).cfg = s.cfg := rfl
@[simp] theorem angleComplete_req (x : Sample) (s : State) : (angleComplete x s).req = s.req := rfl
@[simp] theorem angleComplete_busy (x : Sample) (s : State) :
    (angleComplete x s).busy =
      false := rfl
@[simp] theorem angleComplete_done (x : Sample) (s : State) : (angleComplete x s).done = true := rfl
@[simp] theorem angleComplete_result (x : Sample) (s : State) :
    (angleComplete x s).result =
      angleCode s.cfg x := rfl
@[simp] theorem angleComplete_out (x : Sample) (s : State) :
    (angleComplete x s).out =
      angleResults s.cfg x s.out := rfl
@[simp] theorem angleComplete_last (x : Sample) (s : State) :
    (angleComplete x s).last =
      s.last := rfl
@[simp] theorem angleComplete_cur (x : Sample) (s : State) : (angleComplete x s).cur = s.cur := rfl
@[simp] theorem angleComplete_stepIdx (x : Sample) (s : State) :
    (angleComplete x s).stepIdx =
      0 := rfl
@[simp] theorem angleComplete_sacc (x : Sample) (s : State) :
    (angleComplete x s).sacc =
      s.sacc := rfl
@[simp] theorem angleComplete_inFlight (x : Sample) (s : State) :
    (angleComplete x s).inFlight =
      s.inFlight := rfl
@[simp] theorem angleComplete_raised (x : Sample) (s : State) :
    (angleComplete x s).raised =
      s.raised := rfl
@[simp] theorem angleComplete_command (x : Sample) (s : State) :
    (angleComplete x s).command =
      s.command := rfl
@[simp] theorem angleComplete_hostQueue (x : Sample) (s : State) :
    (angleComplete x s).hostQueue =
      s.hostQueue := rfl
@[simp] theorem angleComplete_answers (x : Sample) (s : State) :
    (angleComplete x s).answers =
      s.answers := rfl
@[simp] theorem angleComplete_draws (x : Sample) (s : State) :
    (angleComplete x s).draws =
      s.draws := rfl

/-! ### resetBlock -/

@[simp] theorem resetBlock_cfg (s : State) : (resetBlock s).cfg = s.cfg := rfl
@[simp] theorem resetBlock_req (s : State) : (resetBlock s).req = Request.zero := rfl
@[simp] theorem resetBlock_busy (s : State) : (resetBlock s).busy = false := rfl
@[simp] theorem resetBlock_done (s : State) : (resetBlock s).done = false := rfl
@[simp] theorem resetBlock_result (s : State) : (resetBlock s).result = .noResult := rfl
@[simp] theorem resetBlock_out (s : State) : (resetBlock s).out = Results.zero s.cfg := rfl
@[simp] theorem resetBlock_last (s : State) : (resetBlock s).last = LastExchange.zero s.cfg := rfl
@[simp] theorem resetBlock_cur (s : State) : (resetBlock s).cur = Request.zero := rfl
@[simp] theorem resetBlock_stepIdx (s : State) : (resetBlock s).stepIdx = 0 := rfl
@[simp] theorem resetBlock_sacc (s : State) : (resetBlock s).sacc = Sample.zero := rfl
@[simp] theorem resetBlock_inFlight (s : State) : (resetBlock s).inFlight = false := rfl
@[simp] theorem resetBlock_raised (s : State) : (resetBlock s).raised = none := rfl
@[simp] theorem resetBlock_command (s : State) : (resetBlock s).command = none := rfl
@[simp] theorem resetBlock_hostQueue (s : State) : (resetBlock s).hostQueue = s.hostQueue := rfl
@[simp] theorem resetBlock_answers (s : State) : (resetBlock s).answers = s.answers := rfl
@[simp] theorem resetBlock_draws (s : State) : (resetBlock s).draws = s.draws := rfl

end Sys2Proof.Machine
end

