-- ==== Sys2Proof/Laws/Ops.lean ====
section
/-! SUPPORT. One lemma per shared operation that says once everything it does: byte arrays, the answer
of the transport, the exchange, the fields an exchange keeps, and every instruction as one exchange. -/

namespace Sys2Proof.Machine

/-! ### Byte arrays -/

@[simp] theorem fillArray_length (n : Nat) (xs : List Byte) : (fillArray n xs).length = n := by
  simp [fillArray]

theorem byteAt_fillArray (n : Nat) (xs : List Byte) (i : Nat) (hi : i < n) :
    byteAt (fillArray n xs) i = byteAt xs i := by
  simp [byteAt, fillArray, hi]

theorem byteAt_eq_zero_of_le (xs : List Byte) (i : Nat) (hi : xs.length ≤ i) : byteAt xs i = 0 := by
  simp [byteAt, List.getElem?_eq_none hi]

/-- Entries past the bytes an array was filled with are zero. -/
theorem fillArray_tail_zero (n : Nat) (xs : List Byte) (k : Nat) (hk : xs.length ≤ k) :
    ((fillArray n xs).drop k).all (· == 0) = true := by
  simp only [List.all_eq_true, beq_iff_eq]
  intro b hb
  obtain ⟨j, hj, rfl⟩ := List.mem_iff_getElem.mp hb
  simp only [List.length_drop, fillArray_length] at hj
  simp only [fillArray, List.getElem_drop, List.getElem_map, List.getElem_range]
  exact byteAt_eq_zero_of_le _ _ (by omega)

@[simp] theorem receive_length (s : State) (n : Nat) (g : List Byte) :
    (receive s n g).length = n := by simp [receive]

/-- A scripted byte is received as given. -/
theorem byteAt_receive_given (s : State) (n : Nat) (g : List Byte) (i : Nat)
    (hn : i < n) (hg : i < g.length) : byteAt (receive s n g) i = byteAt g i := by
  simp [byteAt, receive, hn, hg]

/-- A byte the script does not give is a free value. -/
theorem byteAt_receive_free (s : State) (n : Nat) (g : List Byte) (i : Nat)
    (hn : i < n) (hg : g.length ≤ i) :
    byteAt (receive s n g) i = Config.freeRx s.draws i := by
  simp [byteAt, receive, hn, List.getElem?_eq_none hg]

/-! ### Lengths of tx -/

@[simp] theorem frame_length (op : Opcode) (a : Addr) : (frame op a).length = 2 := rfl

@[simp] theorem placeholderBytes_length (op : Opcode) (a : Addr) :
    (placeholderBytes op a).length = 3 := rfl

theorem writeBytes_length_le (a : Addr) (d : WriteData) : (writeBytes a d).length ≤ 4 := by
  cases d <;> simp [writeBytes, WriteData.bytes]

@[simp] theorem burstBytes_length (a : Addr) (n : Byte) :
    (burstBytes a n).length = 2 + (n.toNat - 2) := by simp [burstBytes]

/-! ### The exchange -/

theorem nextAnswer_script (s : State) (a : Answer) (as : List Answer) (h : s.answers = a :: as) :
    nextAnswer s = a := by simp [nextAnswer, h]

theorem exchange_ok {s : State} {g : List Byte} (h : nextAnswer s = .ok g)
    (tx : List Byte) (onOk : List Byte → State → State) (onErr : State → State) :
    exchange tx onOk onErr s =
      takeAnswer (onOk (receive s tx.length g)
        (storeRx (receive s tx.length g) (sendTx tx s))) := by
  simp only [exchange, h]

theorem exchange_err {s : State} (h : nextAnswer s = .err)
    (tx : List Byte) (onOk : List Byte → State → State) (onErr : State → State) :
    exchange tx onOk onErr s = takeAnswer (onErr (sendTx tx s)) := by
  simp only [exchange, h]

theorem exchange_noAnswer {s : State} (h : nextAnswer s = .noAnswer)
    (tx : List Byte) (onOk : List Byte → State → State) (onErr : State → State) :
    exchange tx onOk onErr s = takeAnswer (sendTx tx s) := by
  simp only [exchange, h]

/-- Everything an exchange can do: one case per answer of the transport. -/
theorem exchange_cases (tx : List Byte) (onOk : List Byte → State → State)
    (onErr : State → State) (s : State) :
    (∃ g, nextAnswer s = .ok g ∧
      exchange tx onOk onErr s =
        takeAnswer (onOk (receive s tx.length g)
          (storeRx (receive s tx.length g) (sendTx tx s)))) ∨
    (nextAnswer s = .err ∧ exchange tx onOk onErr s = takeAnswer (onErr (sendTx tx s))) ∨
    (nextAnswer s = .noAnswer ∧ exchange tx onOk onErr s = takeAnswer (sendTx tx s)) := by
  cases h : nextAnswer s with
  | ok g => exact .inl ⟨g, rfl, exchange_ok h tx onOk onErr⟩
  | err => exact .inr (.inl ⟨rfl, exchange_err h tx onOk onErr⟩)
  | noAnswer => exact .inr (.inr ⟨rfl, exchange_noAnswer h tx onOk onErr⟩)

/-! ### Every instruction is one exchange -/

/-- What an instruction does on `Ok(rx)`. -/
def onOkOf (i : Instr) : List Byte → State → State :=
  match i with
  | .read _ => fun _ t => dropCommand t
  | .write _ _ => fun _ t => dropCommand t
  | .writeEEPROM _ => fun _ t => dropCommand t
  | .setZeroPoint _ => fun _ t => dropCommand t
  | .continuousRead _ _ => fun _ t => dropCommand t
  | .regRead => completeRead
  | .regWrite => completeAck
  | .burstRead => completeBurst
  | .eepromWrite => completeAck
  | .setZero => completeAck
  | .angleReadBurst => completeAngleBurst
  | .angleReadBytewise => completeAngleByte
  | .abzResWrite => completeAbz

/-- What an instruction does on `Err`. -/
def onErrOf (i : Instr) : State → State :=
  if isHostOp i then transportError else fun t => dropCommand (transportError t)

theorem exec_eq_exchange (i : Instr) (s : State) :
    exec i s = .next (exchange (txOf i s) (onOkOf i) (onErrOf i) s) := by
  cases i <;> rfl

/-- What follows `Ok(rx)` keeps the parameters, REQ_*, CUR, FAULTED, the host's queue and the
transport's script. -/
theorem onOkOf_keeps (i : Instr) (rx : List Byte) (s : State) :
    (onOkOf i rx s).cfg = s.cfg ∧ (onOkOf i rx s).req = s.req ∧ (onOkOf i rx s).cur = s.cur ∧
      (onOkOf i rx s).raised = s.raised ∧ (onOkOf i rx s).hostQueue = s.hostQueue ∧
      (onOkOf i rx s).answers = s.answers ∧ (onOkOf i rx s).draws = s.draws := by
  cases i <;>
    simp [onOkOf, completeRead, completeAck, completeBurst, completeAngleBurst, completeAbz]
  simp only [completeAngleByte]
  split <;> simp

/-- What follows `Err` keeps the same. -/
theorem onErrOf_keeps (i : Instr) (s : State) :
    (onErrOf i s).cfg = s.cfg ∧ (onErrOf i s).req = s.req ∧ (onErrOf i s).cur = s.cur ∧
      (onErrOf i s).raised = s.raised ∧ (onErrOf i s).hostQueue = s.hostQueue ∧
      (onErrOf i s).answers = s.answers ∧ (onErrOf i s).draws = s.draws := by
  unfold onErrOf; split <;> simp

/-! ### Angle data -/

@[simp] theorem setSampleByte_zero (x : Sample) (v : Byte) :
    setSampleByte x 0#2 v = { x with angleHigh := v } := rfl

@[simp] theorem setSampleByte_one (x : Sample) (v : Byte) :
    setSampleByte x 1#2 v = { x with angleMid := v } := rfl

@[simp] theorem setSampleByte_two (x : Sample) (v : Byte) :
    setSampleByte x 2#2 v = { x with angleLowStatus := v } := rfl

@[simp] theorem setSampleByte_three (x : Sample) (v : Byte) :
    setSampleByte x 3#2 v = { x with crc := v } := rfl

theorem angleCode_ne_noResult (c : Config) (x : Sample) : angleCode c x ≠ .noResult := by
  unfold angleCode; split
  · split <;> simp
  · simp

/-- An exchange of ANGLE_READ_BYTEWISE before the fourth stores its byte and advances STEP. -/
theorem completeAngleByte_advance {s : State} (h : s.stepIdx.toNat < 3) (rx : List Byte) :
    completeAngleByte rx s =
      { s with sacc := setSampleByte s.sacc s.stepIdx (byteAt rx 2), stepIdx := s.stepIdx + 1 } :=
  if_pos h

/-- The fourth validates SACC. -/
theorem completeAngleByte_last {s : State} (h : ¬ s.stepIdx.toNat < 3) (rx : List Byte) :
    completeAngleByte rx s =
      angleComplete (setSampleByte s.sacc s.stepIdx (byteAt rx 2))
        { s with sacc := setSampleByte s.sacc s.stepIdx (byteAt rx 2) } :=
  if_neg h

/-! ### Whose turn it is -/

theorem nextMove_faulted {s : State} {f : Fault} (h : s.raised = some f) :
    nextMove s = .faulted f := by simp [nextMove, h]

theorem nextMove_quiet {s : State} (h : s.raised = none) (hq : s.hostQueue = []) :
    nextMove s = .sequencer s := by simp [nextMove, h, hq]

theorem nextMove_host {s : State} {a : HostAction} {rest : List HostAction}
    (h : s.raised = none) (hq : s.hostQueue = a :: rest) : nextMove s = hostMove s a rest := by
  simp [nextMove, h, hq]

/-- A host write either changes REQ_* alone or raises a fault. -/
theorem hostWrite_cases (r : HostReg) (v : Nat) (s : State) :
    (∃ q, hostWrite r v s = { s with req := q }) ∨
      (∃ f, hostWrite r v s = raise (.operandOutOfRange f v) s) := by
  cases r <;> simp only [hostWrite, writeField] <;> first
    | exact .inl ⟨s.req, rfl⟩
    | (split
       · exact .inl ⟨_, rfl⟩
       · exact .inr ⟨_, rfl⟩)

end Sys2Proof.Machine
end

