-- ==== Sys2Proof/Laws/PerInstr.lean ====
section
/-! SUPPORT. Statements per instruction: TableRow, that an instruction's encoding is the row of
spec/opcode_table.json it stands for. -/

namespace Sys2Proof.Laws.TableRow

/-- The row's mask and match, on the 16-bit command word or the 4-bit REQ_OP code. -/
def row : Instr → Nat × Nat
  | .read _ => (0xF000, 0x3000)
  | .write _ _ => (0xF000, 0x6000)
  | .writeEEPROM _ => (0xF000, 0xC000)
  | .setZeroPoint _ => (0xF000, 0x5000)
  | .continuousRead _ _ => (0xF000, 0xA000)
  | .regRead => (0xF, 0x1)
  | .regWrite => (0xF, 0x2)
  | .burstRead => (0xF, 0x3)
  | .eepromWrite => (0xF, 0x4)
  | .setZero => (0xF, 0x5)
  | .angleReadBurst => (0xF, 0x6)
  | .angleReadBytewise => (0xF, 0x7)
  | .abzResWrite => (0xF, 0x8)

/-- The number of a code: REQ_OP, or the first two tx bytes, most significant first. -/
def codeNumber : Code → BitVec 16
  | .reqOp op => op.zeroExtend 16
  | .tx bytes => byteAt bytes 0 ++ byteAt bytes 1

/-- The encoding has the row's fixed bits. -/
def Statement (i : Instr) : Prop :=
  codeNumber (encode i) &&& BitVec.ofNat 16 (row i).1 = BitVec.ofNat 16 (row i).2

/-- The opcode bits of a packed command word. -/
theorem pack_opcode_bits (op : Opcode) (a : Addr) :
    pack op a &&& 0xF000#16 = op.code.zeroExtend 16 <<< 12 := by
  apply BitVec.eq_of_getLsbD_eq
  intro k hk
  simp only [BitVec.getLsbD_and, pack, BitVec.getLsbD_append]
  cases op <;> interval_cases k <;> simp [Opcode.code]

/-- A framed command's number is its command word. -/
theorem codeNumber_frame (op : Opcode) (a : Addr) (d : List Byte) :
    codeNumber (.tx (frame op a ++ d)) = pack op a := by
  simp only [codeNumber, frame, byteAt, List.cons_append, List.getD_cons_zero,
    List.getD_cons_succ]
  apply BitVec.eq_of_getLsbD_eq
  intro k hk
  simp only [BitVec.getLsbD_append, BitVec.getLsbD_extractLsb']
  by_cases h : k < 8
  · simp [h]
  · simp [h, show 8 + (k - 8) = k by omega, show k - 8 < 8 by omega]

theorem read (a : Addr) : Statement (.read a) := by
  simp only [Statement, encode, placeholderBytes, codeNumber_frame]
  exact pack_opcode_bits .read a

theorem write (a : Addr) (d : WriteData) : Statement (.write a d) := by
  simp only [Statement, encode, writeBytes, codeNumber_frame]
  exact pack_opcode_bits .write a

theorem writeEEPROM (a : Addr) : Statement (.writeEEPROM a) := by
  simp only [Statement, encode, placeholderBytes, codeNumber_frame]
  exact pack_opcode_bits .writeEEPROM a

theorem setZeroPoint (a : Addr) : Statement (.setZeroPoint a) := by
  simp only [Statement, encode, placeholderBytes, codeNumber_frame]
  exact pack_opcode_bits .setZeroPoint a

theorem continuousRead (a : Addr) (n : Byte) : Statement (.continuousRead a n) := by
  simp only [Statement, encode, burstBytes, codeNumber_frame]
  exact pack_opcode_bits .continuousRead a

theorem regRead : Statement .regRead := by unfold Statement; decide

theorem regWrite : Statement .regWrite := by unfold Statement; decide

theorem burstRead : Statement .burstRead := by unfold Statement; decide

theorem eepromWrite : Statement .eepromWrite := by unfold Statement; decide

theorem setZero : Statement .setZero := by unfold Statement; decide

theorem angleReadBurst : Statement .angleReadBurst := by unfold Statement; decide

theorem angleReadBytewise : Statement .angleReadBytewise := by unfold Statement; decide

theorem abzResWrite : Statement .abzResWrite := by unfold Statement; decide

end Sys2Proof.Laws.TableRow
end

