-- ==== Sys2Proof/Tests/Slice0.lean ====
section
/-! SUPPORT. Tests against the spec's own vectors (spec/95_test_vectors.md, cited as 95) and the
encodings of spec/30_encoding.md; refusals of ill-formed input; and, for every statement with
hypotheses, a state and operands that meet them. -/

namespace Sys2Proof.Tests

open Sys2Proof Sys2Proof.Machine

/-- One view of the state a step leaves. -/
def seen {α : Type} (o : Host.Outcome State Fault Refusal) (view : State → α) : Option α :=
  match o with
  | .next t => some (view t)
  | .fault _ => none
  | .refused _ => none

/-- After reset, an operation running with the operands given and the transport's answers scripted. -/
def running (r : Request) (as : List Answer) : State :=
  scripted as { State.reset with cur := r, busy := true }

/-- A request for operation `op` at address `a`. -/
def request (op : BitVec 4) (a : Addr) : Request := { Request.zero with op := op, addr := a }

/-- After reset, the host about to act. -/
def hosted (q : List HostAction) : State := { State.reset with hostQueue := q }

/-- A bare command in the latch, its exchange answered with the bytes given. -/
def commanded (bytes : List Byte) (as : List Answer) : State :=
  scripted as { State.reset with command := some bytes }

/-! ### Well-formedness -/

/-- 40_command_frame.md R110: N = 2 and N past BURST_MAX_TOTAL (8 here) are refused. -/
theorem test_wf_refuses_burst_lengths :
    (Instr.continuousRead 0x003 2).wf Config.atReset = false ∧
      (Instr.continuousRead 0x003 9).wf Config.atReset = false ∧
      (Instr.continuousRead 0x003 0).wf Config.atReset = false := by decide

theorem test_wf_accepts_burst_bounds :
    (Instr.continuousRead 0x003 3).wf Config.atReset = true ∧
      (Instr.continuousRead 0x003 8).wf Config.atReset = true := by decide

/-- 00_scope.md R6: 6 ≤ BURST_MAX_TOTAL ≤ 255. -/
theorem test_wf_burst_max_total :
    Config.wf { burstMaxTotal := 5 } = false ∧ Config.wf { burstMaxTotal := 6 } = true ∧
      Config.wf { burstMaxTotal := 255 } = true ∧ Config.wf { burstMaxTotal := 256 } = false := by
  decide

/-! ### Decoding: words written out from 30_encoding.md R80 to R85 and 95 section 2.1 -/

/-- Read of 0x113: opcode 0011, address 0001 0001 0011, then the placeholder. -/
theorem test_decode_read :
    decode (.tx [0b00110001, 0b00010011, 0b00000000]) = .instr (.read 0x113) := by decide

/-- Write of 0x00E: opcode 0110, address 0000 0000 1110, then the value 0x12. -/
theorem test_decode_write_one :
    decode (.tx [0b01100000, 0b00001110, 0b00010010]) = .instr (.write 0x00E (.one 0x12)) := by
  decide

/-- The two-byte form: the exchange of 95 W2. -/
theorem test_decode_write_two :
    decode (.tx [0x60, 0x07, 0xFF, 0xFC]) = .instr (.write 0x007 (.two 0xFF 0xFC)) := by decide

/-- WriteEEPROM of 0xFFF: opcode 1100. -/
theorem test_decode_write_eeprom :
    decode (.tx [0b11001111, 0b11111111, 0b00000000]) = .instr (.writeEEPROM 0xFFF) := by decide

/-- SetZeroPoint of 0x000: opcode 0101. -/
theorem test_decode_set_zero_point :
    decode (.tx [0b01010000, 0b00000000, 0b00000000]) = .instr (.setZeroPoint 0x000) := by decide

/-- ContinuousRead of 0xABC, N = 4: opcode 1010, two pad bytes. -/
theorem test_decode_continuous_read :
    decode (.tx [0b10101010, 0b10111100, 0x00, 0x00]) = .instr (.continuousRead 0xABC 4) := by
  decide

/-- The codes 0x1 to 0x8 of R82, as the opcode table numbers them. -/
theorem test_decode_operations :
    decodeTableWord 4 0b0001 = some .regRead ∧ decodeTableWord 4 0b0010 = some .regWrite ∧
      decodeTableWord 4 0b0011 = some .burstRead ∧
      decodeTableWord 4 0b0100 = some .eepromWrite ∧ decodeTableWord 4 0b0101 = some .setZero ∧
      decodeTableWord 4 0b0110 = some .angleReadBurst ∧
      decodeTableWord 4 0b0111 = some .angleReadBytewise ∧
      decodeTableWord 4 0b1000 = some .abzResWrite := by decide

/-- The command words of the opcode table. -/
theorem test_decode_command_words :
    decodeTableWord 16 0x3113 = some (.read 0x113) ∧
      decodeTableWord 16 0x600E = some (.write 0x00E (.one 0)) ∧
      decodeTableWord 16 0xCFFF = some (.writeEEPROM 0xFFF) ∧
      decodeTableWord 16 0x5000 = some (.setZeroPoint 0x000) ∧
      decodeTableWord 16 0xAABC = some (.continuousRead 0xABC 3) := by decide

/-- 95 section 2.1: OPC 0x0, 0x4 and 0xF are Invalid. -/
theorem test_decode_refuses_undefined_opcodes :
    decodeFrame 0x00 0x00 = none ∧ decodeFrame 0x4F 0xFF = none ∧ decodeFrame 0xF1 0x23 = none ∧
      decode (.tx [0xF1, 0x23, 0x00]) = .rejected (.undefinedOpcode 0xF) := by decide

/-- 95 section 2.2: REQ_OP 0x0 and 0x9 are reserved; a number wider than 4 bits is no code. -/
theorem test_decode_refuses_reserved_operations :
    decodeTableWord 4 0x0 = none ∧ decodeTableWord 4 0x9 = none ∧ decodeTableWord 4 0xF = none ∧
      decodeTableWord 4 0x11 = none := by decide

/-- A data phase the opcode does not have. -/
theorem test_decode_refuses_bad_data_phases :
    decode (.tx [0x30, 0x03]) = .rejected (.badLength .read 0) ∧
      decode (.tx [0x30, 0x03, 0x01]) = .rejected (.badPad .read) ∧
      decode (.tx [0x60, 0x07, 1, 2, 3]) = .rejected (.badLength .write 3) ∧
      decode (.tx [0xA0, 0x03]) = .rejected (.badLength .continuousRead 0) ∧
      decode (.tx [0x30]) = .rejected .noFrame := by decide

/-- 95 section 2.1: the packed words and their frames. -/
theorem test_frame_vectors :
    pack .read 0x113 = 0x3113 ∧ frame .read 0xFFF = [0x3F, 0xFF] ∧
      frame .write 0x007 = [0x60, 0x07] ∧ frame .writeEEPROM 0xFFF = [0xCF, 0xFF] ∧
      frame .setZeroPoint 0x000 = [0x50, 0x00] ∧ frame .continuousRead 0xABC = [0xAA, 0xBC] := by
  decide

/-! ### Formats: 95 sections 2.3 and 2.4 -/

theorem test_crc_vectors :
    crc8 Config.atReset [] = 0x00 ∧ crc8 Config.atReset [0x01] = 0x07 ∧
      crc8 Config.atReset [0x80] = 0x89 ∧ crc8 Config.atReset [0xFF] = 0xF3 ∧
      crc8 Config.atReset [0x12, 0x34, 0x58] = 0x56 ∧
      crc8 Config.atReset [0xAB, 0xCD, 0xE8] = 0x36 := by decide +kernel

/-- The check value of ASCII "123456789". -/
theorem test_crc_check_value :
    crc8 Config.atReset [0x31, 0x32, 0x33, 0x34, 0x35, 0x36, 0x37, 0x38, 0x39] = 0xF4 := by
  decide +kernel

theorem test_raw_angle_vectors :
    rawAngle { angleHigh := 0x12, angleMid := 0x34, angleLowStatus := 0x58, crc := 0 } = 0x2468B ∧
      rawAngle { angleHigh := 0x80, angleMid := 0, angleLowStatus := 0, crc := 0 } = 0x100000 ∧
      rawAngle { angleHigh := 0xFF, angleMid := 0xFF, angleLowStatus := 0xF8, crc := 0 } =
        0x1FFFFF ∧
      rawAngle { angleHigh := 0, angleMid := 0, angleLowStatus := 0x07, crc := 0 } = 0 := by decide

theorem test_abz_vectors :
    abzWord 0x3FFF false false = 0xFFFC ∧ abzWord 0 true false = 0x0001 ∧
      abzWord 0 false true = 0x0002 ∧ abzWord 0x0400 false true = 0x1002 ∧
      abzWord 0x1000 true false = 0x4001 ∧ abzWord 0x2000 false false = 0x8000 := by decide

/-! ### One step of each instruction: 95 sections 2.2 to 2.4, through `step` -/

/-- A bare Read shows its exchange in LAST_* and writes no result register. -/
theorem test_step_read :
    seen (step (commanded [0x31, 0x13, 0x00] [.ok [1, 2, 0xC0]]))
      (fun t => (t.last.len, t.last.tx, t.last.rx, t.out.rdData)) =
      some (3, [0x31, 0x13, 0, 0, 0, 0, 0, 0], [1, 2, 0xC0, 0, 0, 0, 0, 0], 0) := by decide

/-- A bare Write in its two-byte form sends 4 bytes and keeps ACK. -/
theorem test_step_write :
    seen (step (commanded [0x60, 0x07, 0xFF, 0xFC] [.ok [1, 2, 0x55, 4]]))
      (fun t => (t.last.len, t.last.tx, t.out.ack, t.command)) =
      some (4, [0x60, 0x07, 0xFF, 0xFC, 0, 0, 0, 0], 0, none) := by decide

theorem test_step_write_eeprom :
    seen (step (commanded [0xC0, 0x00, 0x00] [.ok [1, 2, 0x55]]))
      (fun t => (t.last.len, t.last.tx, t.out.ack, t.done)) =
      some (3, [0xC0, 0, 0, 0, 0, 0, 0, 0], 0, false) := by decide

/-- A bare command answered Err ends with TRANSPORT_ERROR. -/
theorem test_step_set_zero_point_err :
    seen (step (commanded [0x50, 0x00, 0x00] [.err]))
      (fun t => (t.last.tx, t.result, t.done, t.command)) =
      some ([0x50, 0, 0, 0, 0, 0, 0, 0], .transportError, true, none) := by decide

theorem test_step_continuous_read :
    seen (step (commanded [0xA0, 0x03, 0, 0, 0, 0] [.ok [1, 2, 0x12, 0x34, 0x58, 0x56]]))
      (fun t => (t.last.len, t.last.rx, t.out.burstCount)) =
      some (6, [1, 2, 0x12, 0x34, 0x58, 0x56, 0, 0], 0) := by decide

theorem test_step_reg_read :
    seen (step (running (request 0x1 0x001) [.ok [1, 2, 0x5A]]))
      (fun t => (t.out.rdData, t.result, t.busy, t.done, t.last.tx)) =
      some (0x5A, .ok, false, true, [0x30, 0x01, 0, 0, 0, 0, 0, 0]) := by decide

theorem test_step_reg_read_err :
    seen (step (running (request 0x1 0x001) [.err]))
      (fun t => (t.out.rdData, t.result, t.busy, t.done)) =
      some (0x00, .transportError, false, true) := by decide

/-- An ACK other than 0x55 is stored and RESULT is OK. -/
theorem test_step_reg_write_bad_ack :
    seen (step (running { request 0x2 0x00E with wdata := 0x12 } [.ok [1, 2, 0x07]]))
      (fun t => (t.out.ack, t.result, t.last.tx)) =
      some (0x07, .ok, [0x60, 0x0E, 0x12, 0, 0, 0, 0, 0]) := by decide

theorem test_step_burst_read_shortest :
    seen (step (running { request 0x3 0x003 with tlen := 3 } [.ok [1, 2, 0x12]]))
      (fun t => (t.out.burstCount, t.out.burstData, t.last.tx)) =
      some (1, [0x12, 0, 0, 0, 0, 0], [0xA0, 0x03, 0, 0, 0, 0, 0, 0]) := by decide

theorem test_step_burst_read_longest :
    seen (step (running { request 0x3 0x100 with tlen := 8 } [.ok [9, 9, 1, 2, 3, 4, 5, 6]]))
      (fun t => (t.out.burstCount, t.out.burstData, t.last.len)) =
      some (6, [1, 2, 3, 4, 5, 6], 8) := by decide

theorem test_step_eeprom_write :
    seen (step (running (request 0x4 0x000) [.ok [1, 2, 0x55]]))
      (fun t => (t.out.ack, t.result, t.last.tx)) =
      some (0x55, .ok, [0xC0, 0, 0, 0, 0, 0, 0, 0]) := by decide

/-- An unanswered exchange leaves BUSY = 1 and nothing written but LAST_LEN and LAST_TX. -/
theorem test_step_set_zero_waits :
    seen (step (running (request 0x5 0x000) [.noAnswer]))
      (fun t => (t.busy, t.done, t.inFlight, t.last.tx, t.last.rx)) =
      some (true, false, true, [0x50, 0, 0, 0, 0, 0, 0, 0], [0, 0, 0, 0, 0, 0, 0, 0]) := by decide

theorem test_step_set_zero :
    seen (step (running (request 0x5 0x000) [.ok [1, 2, 0x55]]))
      (fun t => (t.out.ack, t.result, t.busy)) = some (0x55, .ok, false) := by decide

/-- 95 section 2.3: a valid sample. -/
theorem test_step_angle_burst_ok :
    seen (step (running (request 0x6 0) [.ok [1, 2, 0x12, 0x34, 0x58, 0x56]]))
      (fun t => (t.out.angleRaw, t.out.crcCalc, t.result, t.out.burstCount)) =
      some (0x2468B, 0x56, .ok, 0) := by decide +kernel

/-- The CRC is checked before the status. -/
theorem test_step_angle_burst_crc_first :
    seen (step (running (request 0x6 0) [.ok [1, 2, 0x12, 0x34, 0x59, 0x56]]))
      (fun t => (t.out.angleRaw, t.out.angleStatus, t.out.crcCalc, t.result)) =
      some (0, 0, 0x51, .crcError) := by decide +kernel

/-- Exchange 2 goes to ANGLE_L and fills SACC[2]. -/
theorem test_step_angle_bytewise_third :
    seen (step { running (request 0x7 0) [.ok [1, 2, 0x5E]] with stepIdx := 2 })
      (fun t => (t.sacc.angleLowStatus, t.stepIdx, t.busy, t.last.tx)) =
      some (0x5E, 3, true, [0x30, 0x05, 0, 0, 0, 0, 0, 0]) := by decide

/-- The fourth exchange validates the accumulator. -/
theorem test_step_angle_bytewise_last :
    seen (step
      { running (request 0x7 0) [.ok [1, 2, 0x44]] with
        stepIdx := 3
        sacc := { angleHigh := 0x12, angleMid := 0x34, angleLowStatus := 0x5E, crc := 0 } })
      (fun t => (t.out.angleStatus, t.result, t.stepIdx, t.last.len)) =
      some (0b110, .sensorStatus, 0, 3) := by decide +kernel

theorem test_step_abz_res_write :
    seen (step (running { request 0x8 0 with res := 0x0400, abzOff := true } [.ok [1, 2, 3, 4]]))
      (fun t => (t.last.tx, t.out.ack, t.result)) =
      some ([0x60, 0x07, 0x10, 0x02, 0, 0, 0, 0], 0, .ok) := by decide

/-! ### START, faults, reset and placing a word -/

/-- 95 section 2.2: START with the reset value of REQ_OP. -/
theorem test_start_illegal :
    seen (step (hosted [.start])) (fun t => (t.result, t.done, t.busy, t.last.len)) =
      some (.illegalOp, true, false, 0) := by decide

/-- START while BUSY = 1 sets FAULTED, and the next step stops. -/
theorem test_start_while_busy :
    seen (step { hosted [.start] with busy := true }) (fun t => (t.raised, t.busy)) =
      some (some .startWhileBusy, true) ∧
      step { State.reset with raised := some .startWhileBusy } = .fault .startWhileBusy :=
  ⟨by decide, rfl⟩

/-- 95 section 2.1: an address of 0x1000 is refused, not truncated. -/
theorem test_wide_write_faults :
    seen (step (hosted [.write .reqAddr 0x1000])) (fun t => (t.raised, t.req.addr)) =
      some (some (.operandOutOfRange .addr 0x1000), 0) := by decide

/-- 95 section 2.5: reset at STEP = 2 of a bytewise read. -/
theorem test_reset_while_busy :
    seen (step { hosted [.reset] with busy := true, stepIdx := 2, cur := request 0x7 0 })
      (fun t => (t.busy, t.stepIdx, t.cur.op, t.done)) = some (false, 0, 0, false) := by decide

/-- The rows of the opcode table run as the first instruction after reset. -/
theorem test_fetch_word_operation :
    step (State.reset.withFetchWord 4 0x1) =
      exec .regRead { State.reset with cur := request 0x1 0, busy := true } := by rfl

theorem test_fetch_word_command :
    step (State.reset.withFetchWord 16 0x3113) =
      exec (.read 0x113) { State.reset with command := some [0x31, 0x13, 0x00] } := by rfl

/-- Words the block never sends are refused by name. -/
theorem test_fetch_word_refuses :
    step (State.reset.withFetchWord 16 0x4000) =
        .refused (.commandNotSendable [0x40, 0x00, 0x00]) ∧
      step (State.reset.withFetchWord 4 0x9) = .refused (.illegalRequestRunning 0x9) :=
  ⟨rfl, rfl⟩

/-! ### Witnesses: for each statement with hypotheses, inputs that meet them, clause by clause -/

theorem test_witness_FrameRoundTrip :
    decodeFrame 0x5F 0xFF = some (.setZeroPoint, 0xFFF) ∧
      frame .setZeroPoint 0xFFF = [0x5F, 0xFF] ∧ frame .read 0x000 = [0x30, 0x00] := by decide

theorem test_witness_DecodeEncode :
    (Instr.continuousRead 0xFFF 255).wf { burstMaxTotal := 255 } = true ∧
      (Instr.continuousRead 0x000 3).wf { burstMaxTotal := 6 } = true ∧
      (Instr.write 0xFFF (.two 0xFF 0x00)).wf Config.atReset = true := by decide

theorem test_witness_EncodeDecode :
    decode (.tx [0xA0, 0x03, 0x00]) = .instr (.continuousRead 0x003 3) ∧
      decode (.reqOp 0x8) = .instr .abzResWrite := by decide

theorem test_witness_ReservedOperationCodes :
    decode (.reqOp 0x0) = .rejected (.reservedOperation 0x0) ∧
      decode (.reqOp 0x9) = .rejected (.reservedOperation 0x9) ∧
      decode (.reqOp 0xF) = .rejected (.reservedOperation 0xF) := by decide

/-- The bounds of R84: lengths 2, 3, 8 and 9 where BURST_MAX_TOTAL is 8. -/
theorem test_witness_LegalRequests :
    legal Config.atReset { request 0x3 0 with tlen := 3 } = true ∧
      legal Config.atReset { request 0x3 0 with tlen := 8 } = true ∧
      legal Config.atReset { request 0x3 0 with tlen := 2 } = false ∧
      legal Config.atReset { request 0x3 0 with tlen := 9 } = false ∧
      legal Config.atReset (request 0x1 0) = true ∧ legal Config.atReset (request 0x8 0) = true ∧
      legal Config.atReset (request 0x0 0) = false ∧
      legal Config.atReset (request 0x9 0) = false := by decide

/-- Address 0xFFF packs, 0x1000 and the opcodes 0x4 and 0x13 are refused. -/
theorem test_witness_PackerRefusesWideOperands :
    ((0xFFF < 0x1000 ∧ 0x1000 ≤ 0x1000) ∧ (∀ o : Opcode, o.code.toNat ≠ 0x4) ∧
      ∀ o : Opcode, o.code.toNat ≠ 0x13) ∧
      (packChecked 0x3 0xFFF).toOption = some 0x3FFF ∧ (packChecked 0x3 0x1000).toOption = none ∧
      (packChecked 0x4 0).toOption = none ∧ (packChecked 0x13 0).toOption = none :=
  ⟨⟨by decide, by intro o; cases o <;> decide, by intro o; cases o <;> decide⟩, by decide⟩

theorem test_witness_AbzWordFields : abzWord 0x3FFF true false = abzWord 0x3FFF true false := rfl

/-- 0x3FFF and flags 0 and 1 pack; 0x4000 and a flag of 2 are refused. -/
theorem test_witness_AbzPackerRefusesWideOperands :
    (abzWordChecked 0x3FFF 1 1).toOption = some 0xFFFF ∧
      (abzWordChecked 0x4000 0 0).toOption = none ∧ (abzWordChecked 0x3FFF 2 1).toOption = none ∧
      (abzWordChecked 0x3FFF 1 2).toOption = none := by decide

theorem test_witness_RawAngleFormula :
    (0x5F : Byte).extractLsb' 3 5 = (0x58 : Byte).extractLsb' 3 5 := by decide

theorem test_witness_AppendedCrcChecks :
    Config.atReset.crcXorOut = 0 ∧ crc8 Config.atReset [0x12, 0x34, 0x58, 0x56] = 0 := by
  decide +kernel

theorem test_witness_CrcCatchesOneByte :
    Config.atReset.crcPoly.getLsbD 0 = true ∧ (0x00 : Byte) ≠ 0x80 := by decide

/-- A legal and an illegal START while BUSY = 0. -/
theorem test_witness_StartLatchesAndChecks :
    (hosted [.start]).raised = none ∧ (hosted [.start]).busy = false ∧
      legal Config.atReset (hosted [.start]).req = false ∧
      legal Config.atReset { State.reset with req := request 0x1 0 }.req = true := by decide

/-- REQ_OP 0x0, 0x9 and 0xF, and the burst lengths 2 and 9. -/
theorem test_witness_IllegalRequestsEndAtStart :
    (hosted [.start]).raised = none ∧ (hosted [.start]).busy = false ∧
      (hosted [.start]).req.op = 0x0 ∧ 9 ≤ (request 0x9 0).op.toNat ∧
      9 ≤ (request 0xF 0).op.toNat ∧
      ({ request 0x3 0 with tlen := 2 } : Request).tlen.toNat < 3 ∧
      State.reset.cfg.burstMaxTotal < ({ request 0x3 0 with tlen := 9 } : Request).tlen.toNat := by
  decide

theorem test_witness_StartWhileBusyFaults :
    ({ hosted [.start] with busy := true } : State).raised = none ∧
      ({ hosted [.start] with busy := true } : State).busy = true ∧
      ({ State.reset with raised := some .startWhileBusy } : State).raised =
        some .startWhileBusy := by decide

/-- Each width's greatest value and the first that does not fit, and an RO register. -/
theorem test_witness_HostWrites :
    (hosted [.write .reqRes 0x3FFF]).raised = none ∧
      rwField .reqRes = some (14, .res) ∧ 0x3FFF < 2 ^ 14 ∧ 2 ^ 14 ≤ 0x4000 ∧
      rwField .reqAbSwap = some (1, .abSwap) ∧ 1 < 2 ^ 1 ∧ 2 ^ 1 ≤ 2 ∧
      rwField (.burstData 0) = none := by decide

theorem test_witness_HostReadsHaveNoEffect :
    (hosted [.read .result]).raised = none ∧
      (hosted [.read .result]).hostQueue = .read .result :: [] := by decide

theorem test_witness_ResetValues : hostRead (State.resetWith Config.atReset) .rdData = some 0 := by
  decide

theorem test_witness_ResetAtAnyTime :
    ({ hosted [.reset] with busy := true, stepIdx := 2 } : State).raised = none ∧
      ({ hosted [.reset] with busy := true, stepIdx := 2 } : State).hostQueue = .reset :: [] := by
  decide

/-- Both ways FAULTED is set. -/
theorem test_witness_FaultsOnlyFromBrokenDuties :
    seen (step { hosted [.start] with busy := true }) State.raised =
        some (some .startWhileBusy) ∧
      seen (step (hosted [.write .reqAbzOff 2])) State.raised =
        some (some (.operandOutOfRange .abzOff 2)) := by decide

/-- Every line at its operands' bounds, and burst lengths 2, 3, 8 and 9, from a quiet state. -/
theorem test_witness_ProgramLines :
    (0xFFF < 0x1000 ∧ 0xFF < 0x100 ∧ 0x3FFF < 0x4000 ∧ 1 < 2 ∧ ¬(3 ≤ 2) ∧ 3 ≤ 3 ∧
      8 ≤ State.reset.cfg.burstMaxTotal ∧ ¬(9 ≤ State.reset.cfg.burstMaxTotal)) ∧
      ∀ l ∈ [Line.regRead 0xFFF, .regWrite 0xFFF 0xFF, .burstRead 0 2, .burstRead 0 3,
        .burstRead 0xFFF 8, .burstRead 0 9, .eepromWrite 0, .setZero 0xFFF, .angleReadBurst,
        .angleReadBytewise, .abzResWrite 0x3FFF 1 0, .abzResWrite 0 0 1],
        (hosted (lineActions l)).raised = none ∧ (hosted (lineActions l)).busy = false ∧
          (hosted (lineActions l)).hostQueue = lineActions l ++ [] := by decide

/-- The operands of an ABZ line reach their own registers (43_config.md R180). -/
theorem test_line_abz :
    seen (Sys2Proof.core.run 5 (hosted (lineActions (.abzResWrite 0x0400 0 1))))
      (fun t : State => (t.cur.op, t.cur.res, t.cur.abSwap, t.cur.abzOff, t.busy)) =
      some (0x8, 0x0400, false, true, true) := by decide

/-- RESULT reads as the number of 30_encoding.md R87, and an array entry as its byte. -/
theorem test_host_read :
    hostRead { State.reset with result := .illegalOp } .result = some 5 ∧
      hostRead State.reset (.burstData 5) = some 0 ∧ hostRead State.reset (.burstData 6) = none ∧
      hostRead State.reset (.sample 3) = some 0 ∧ hostRead State.reset (.sample 4) = none := by
  decide

/-- The three answers of the transport. ReadCommand, WriteCommand, WriteEepromCommand,
SetZeroPointCommand, RegReadOperation, RegWriteOperation, EepromWriteOperation, SetZeroOperation,
AngleReadBurstOperation, AbzResWriteOperation and NoAnswerKeepsWaiting ask for nothing else. -/
theorem test_witness_nextAnswer :
    nextAnswer (scripted [.ok [1, 2, 0x5A]] State.reset) = .ok [1, 2, 0x5A] ∧
      nextAnswer (scripted [.err] State.reset) = .err ∧
      nextAnswer (scripted [.noAnswer] State.reset) = .noAnswer := by decide

theorem test_witness_TransportErrorEnds :
    isHostOp .abzResWrite = true ∧ nextAnswer (running (request 0x8 0) [.err]) = .err := by decide

theorem test_witness_RequestWritesDoNotDisturb :
    (hosted [.start]).raised = none ∧ (hosted [.start]).hostQueue = .start :: [] ∧
      (hosted [.start]).busy = false := by decide

/-- Lengths 3 and 8, where BURST_MAX_TOTAL is 8, with an answer. -/
theorem test_witness_ContinuousReadCommand :
    (Instr.continuousRead 0xABC 3).wf (commanded [] [.ok []]).cfg = true ∧
      (Instr.continuousRead 0xABC 8).wf (commanded [] [.ok []]).cfg = true ∧
      nextAnswer (commanded [] [.ok []]) = .ok [] := by decide

/-- Lengths 3 and 8 run with an answer of either kind; lengths 2 and 9 are refused at START. -/
theorem test_witness_BurstReadOperation :
    (3 ≤ (running { request 0x3 0 with tlen := 3 } [.ok []]).cur.tlen.toNat ∧
      (running { request 0x3 0 with tlen := 8 } [.err]).cur.tlen.toNat ≤
        State.reset.cfg.burstMaxTotal ∧
      nextAnswer (running { request 0x3 0 with tlen := 3 } [.ok []]) = .ok [] ∧
      nextAnswer (running { request 0x3 0 with tlen := 8 } [.err]) = .err) ∧
      State.reset.busy = false ∧ ({ request 0x3 0 with tlen := 2 } : Request).op = 0x3 ∧
      ({ request 0x3 0 with tlen := 2 } : Request).tlen.toNat < 3 ∧
      State.reset.cfg.burstMaxTotal < ({ request 0x3 0 with tlen := 9 } : Request).tlen.toNat := by
  decide

/-- Exchanges 0, 2 and 3, answered Ok. -/
theorem test_witness_AngleReadBytewiseOperation :
    nextAnswer (running (request 0x7 0) [.ok [1, 2, 3]]) = .ok [1, 2, 3] ∧
      (running (request 0x7 0) [.ok [1, 2, 3]]).stepIdx.toNat < 3 ∧
      ({ running (request 0x7 0) [.ok [1, 2, 3]] with stepIdx := 2 } : State).stepIdx.toNat < 3 ∧
      ({ running (request 0x7 0) [.ok [1, 2, 3]] with stepIdx := 3 } : State).stepIdx = 3 := by
  decide

/-- The outcomes of the validation step: mismatch, nonzero status, valid (95 section 2.3). -/
theorem test_witness_AngleValidation :
    crc8 Config.atReset [0x12, 0x34, 0x58] ≠ 0x57 ∧
      crc8 Config.atReset [0x12, 0x34, 0x5F] = 0x43 ∧ (0x5F : Byte).extractLsb' 0 3 ≠ 0 ∧
      crc8 Config.atReset [0xFF, 0xFF, 0xF8] = 0x1A ∧ (0xF8 : Byte).extractLsb' 0 3 = 0 := by
  decide +kernel

/-- The same through `angleCode`. -/
theorem test_witness_AngleReadBurstOperation :
    angleCode Config.atReset
        { angleHigh := 0x12, angleMid := 0x34, angleLowStatus := 0x58, crc := 0x57 } =
        .crcError ∧
      angleCode Config.atReset
        { angleHigh := 0x12, angleMid := 0x34, angleLowStatus := 0x5F, crc := 0x43 } =
        .sensorStatus ∧
      angleCode Config.atReset
        { angleHigh := 0xFF, angleMid := 0xFF, angleLowStatus := 0xF8, crc := 0x1A } = .ok := by
  decide +kernel

/-- The three turns of the sequencer, and a command, an operation and an idle block in one. -/
theorem test_witness_StepRunsDecoded :
    SequencerTurn State.reset State.reset ∧
      SequencerTurn (hosted [.pass]) (hosted []) ∧
      SequencerTurn (hosted [.waitDone]) (hosted [.waitDone]) ∧
      (commanded [0x31, 0x13, 0] []).command = some [0x31, 0x13, 0] ∧
      decode (.tx [0x31, 0x13, 0]) = .instr (.read 0x113) ∧
      (running (request 0x8 0) []).command = none ∧ (running (request 0x8 0) []).busy = true ∧
      legal Config.atReset (running (request 0x8 0) []).cur = true ∧
      decode (.reqOp (running (request 0x8 0) []).cur.op) = .instr .abzResWrite ∧
      State.reset.command = none ∧ State.reset.busy = false :=
  ⟨⟨rfl, .inl ⟨rfl, rfl⟩⟩, ⟨rfl, .inr (.inl ⟨[], rfl, rfl⟩)⟩,
    ⟨rfl, .inr (.inr ⟨[], rfl, rfl, rfl⟩)⟩, by decide⟩

theorem test_witness_InvAtReset : Config.atReset.wf = true := by decide

/-- The invariant holds of a running operation that has a next state. -/
theorem test_witness_StepKeepsInv :
    (running (request 0x1 0) [.ok [1, 2, 3]]).Inv ∧
      (seen (step (running (request 0x1 0) [.ok [1, 2, 3]])) id).isSome = true := by decide

theorem test_witness_StepKeepsCrcAgreement :
    crc8 Config.atReset [0, 0, 0] = 0 ∧ CrcAgrees (running (request 0x6 0) [.ok []]) ∧
      (seen (step (running (request 0x6 0) [.ok []])) id).isSome = true := by decide +kernel

/-- RD_DATA, ACK, BURST_DATA and the angle registers do change, each in a step of its own. -/
theorem test_witness_ResultsHaveTheirWriters :
    (running (request 0x1 0) [.ok [1, 2, 3]]).hostQueue.head? ≠ some .reset ∧
      seen (step (running (request 0x1 0) [.ok [1, 2, 3]])) (fun t => t.out.rdData != 0) =
        some true ∧
      seen (step (running (request 0x4 0) [.ok [1, 2, 3]])) (fun t => t.out.ack != 0) =
        some true ∧
      seen (step (running { request 0x3 0 with tlen := 3 } [.ok [1, 2, 3]]))
        (fun t => t.out.burstCount != 0) = some true ∧
      seen (step (running (request 0x6 0) [.ok [1, 2, 0, 0, 8, 0x38]]))
        (fun t => t.out.angleRaw != 0) = some true ∧
      seen (step (running (request 0x6 0) [.ok [1, 2, 0, 0, 1, 7]]))
        (fun t => (t.out.angleStatus != 0, t.out.crcCalc != 0)) = some (true, true) := by
  decide +kernel

/-- BUSY rises at a START and falls at an ending and at a reset. -/
theorem test_witness_BusyChanges :
    seen (step { hosted [.start] with req := request 0x1 0 }) State.busy = some true ∧
      seen (step (running (request 0x1 0) [.err])) State.busy = some false ∧
      seen (step { hosted [.reset] with busy := true }) State.busy = some false := by decide

/-- CUR changes at a START, REQ_* at a write, both at a reset. -/
theorem test_witness_RequestsChangeOnlyByTheHost :
    seen (step { hosted [.start] with req := request 0x1 0 }) (fun t => t.cur.op) = some 0x1 ∧
      seen (step (hosted [.write .reqOp 0xF])) (fun t => t.req.op) = some 0xF ∧
      seen (step { hosted [.reset] with req := request 0x1 0, cur := request 0x1 0 })
        (fun t => (t.req.op, t.cur.op)) = some (0, 0) := by decide

/-- Two states that differ in a result register and agree in all the statement asks. -/
theorem test_witness_NoOperationReadsOldResults :
    isHostOp .regRead = true ∧
      (running (request 0x1 0) [.err]).cfg = State.reset.cfg ∧
      ({ running (request 0x1 0) [.err] with out := { (Results.zero Config.atReset) with rdData := 9 } }
        : State).cur = (running (request 0x1 0) [.err]).cur ∧
      ({ running (request 0x1 0) [.err] with out := { (Results.zero Config.atReset) with rdData := 9 } }
        : State).answers = (running (request 0x1 0) [.err]).answers := by decide

theorem test_witness_AngleVariantsAgree : State.reset.stepIdx = 0 := by decide

theorem test_witness_OnlyDefinedOpcodesAreSent :
    State.reset.cfg.wf = true ∧
      (seen (exec .setZero (running (request 0x5 0) [.noAnswer])) id).isSome = true := by decide

/-- An operation that ends, and the one that goes on. -/
theorem test_witness_OneExchangePerOperation :
    isHostOp .angleReadBytewise = true ∧ nextAnswer (running (request 0x7 0) [.err]) ≠ .noAnswer ∧
      nextAnswer (running (request 0x7 0) [.ok []]) ≠ .noAnswer ∧
      (running (request 0x7 0) [.ok []]).busy = true ∧
      (running (request 0x7 0) [.ok []]).done = false := by decide

/-- Four answers to a bytewise angle read. -/
theorem test_witness_AnsweredOperationsEnd :
    (running (request 0x7 0) [.ok [], .ok [], .ok [], .err]).raised = none ∧
      (running (request 0x7 0) [.ok [], .ok [], .ok [], .err]).hostQueue = [] ∧
      (running (request 0x7 0) [.ok [], .ok [], .ok [], .err]).command = none ∧
      (running (request 0x7 0) [.ok [], .ok [], .ok [], .err]).busy = true ∧
      (running (request 0x7 0) [.ok [], .ok [], .ok [], .err]).done = false ∧
      legal State.reset.cfg (running (request 0x7 0) [.ok [], .ok [], .ok [], .err]).cur = true ∧
      Answer.ok [] ≠ .noAnswer ∧ Answer.err ≠ .noAnswer := by decide

end Sys2Proof.Tests
end

/-! ## Proofs of the state family (10_state.md)

`StepsTo` says once what a step can do; `exchange_status`, `exchange_keeps` and `step_out_cases` say
what it does to the status registers, to what lies outside the block, and to the result registers.
Each statement about every step is a case analysis along these. -/

namespace Sys2Proof.Machine

/-! ### What a step can do -/

theorem step_of_host {s u : State} (hm : nextMove s = .host u) : step s = .next u := by
  simp [step, hm]

theorem step_of_instr {s u : State} {i : Instr} (hm : nextMove s = .sequencer u)
    (hf : fetch u = .instr i) : step s = exec i u := by
  simp [step, hm, hf]

theorem step_of_idle {s u : State} (hm : nextMove s = .sequencer u) (hf : fetch u = .idle) :
    step s = .next u := by
  simp [step, hm, hf]

theorem step_of_refused {s u : State} {r : Refusal} (hm : nextMove s = .sequencer u)
    (hf : fetch u = .refused r) : step s = .refused r := by
  simp [step, hm, hf]

/-- Every way a step leads from `s` to a next state (10_state.md R20): an action of the host, or the
sequencer's turn. -/
inductive StepsTo (s : State) : State → Prop where
  | write (r : HostReg) (v : Nat) (rest : List HostAction)
      (hq : s.hostQueue = .write r v :: rest) :
      StepsTo s (hostWrite r v { s with hostQueue := rest })
  | start (rest : List HostAction) (hq : s.hostQueue = .start :: rest) :
      StepsTo s (startOp { s with hostQueue := rest })
  | reset (rest : List HostAction) (hq : s.hostQueue = .reset :: rest) :
      StepsTo s (resetBlock { s with hostQueue := rest })
  /-- A host read, a wait that is over, or a turn of the idle sequencer. -/
  | noEffect (q : List HostAction) : StepsTo s { s with hostQueue := q }
  /-- The sequencer runs the instruction it finds. -/
  | run (q : List HostAction) (i : Instr) (hf : fetch s = .instr i) :
      StepsTo s (exchange (txOf i s) (onOkOf i) (onErrOf i) { s with hostQueue := q })

theorem txOf_hostQueue (i : Instr) (s : State) (q : List HostAction) :
    txOf i { s with hostQueue := q } = txOf i s := by
  cases i <;> rfl

/-- The sequencer's turn idles or runs the instruction it finds. -/
theorem stepsTo_of_turn {s t : State} {q : List HostAction}
    (hm : nextMove s = .sequencer { s with hostQueue := q }) (h : step s = .next t) :
    StepsTo s t := by
  cases hf : fetch { s with hostQueue := q } with
  | instr i =>
    rw [step_of_instr hm hf, exec_eq_exchange, txOf_hostQueue] at h
    cases h
    exact .run q i hf
  | idle =>
    rw [step_of_idle hm hf] at h
    cases h
    exact .noEffect q
  | refused r =>
    rw [step_of_refused hm hf] at h
    cases h

theorem stepsTo_of_step {s t : State} (h : step s = .next t) : StepsTo s t := by
  cases hr : s.raised with
  | some f => simp [step, nextMove_faulted hr] at h
  | none =>
    cases hq : s.hostQueue with
    | nil => exact stepsTo_of_turn (q := s.hostQueue) (nextMove_quiet hr hq) h
    | cons a rest =>
      have hm := nextMove_host hr hq
      cases a with
      | write r v =>
        rw [step_of_host hm] at h
        cases h
        exact .write r v rest hq
      | read r =>
        rw [step_of_host hm] at h
        cases h
        exact .noEffect rest
      | start =>
        rw [step_of_host hm] at h
        cases h
        exact .start rest hq
      | reset =>
        rw [step_of_host hm] at h
        cases h
        exact .reset rest hq
      | pass => exact stepsTo_of_turn (q := rest) hm h
      | waitDone =>
        cases hd : s.done with
        | true =>
          rw [step_of_host (hm.trans (if_pos hd))] at h
          cases h
          exact .noEffect rest
        | false => exact stepsTo_of_turn (q := s.hostQueue) (hm.trans (if_neg (by simp [hd]))) h

/-! ### What the sequencer finds -/

/-- A REQ_OP code decodes to the host operation whose code it is. -/
theorem decodeReqOp_instr {op : BitVec 4} {i : Instr} (h : decodeReqOp op = .instr i) :
    isHostOp i = true ∧ encode i = .reqOp op := by
  unfold decodeReqOp at h
  split_ifs at h with h1 h2 h3 h4 h5 h6 h7 h8 <;> cases h <;> subst op <;> exact ⟨rfl, rfl⟩

/-- A wire transaction decodes to a wire command. -/
theorem decodeTx_isHostOp {bytes : List Byte} {i : Instr} (h : decodeTx bytes = .instr i) :
    isHostOp i = false := by
  unfold decodeTx decodePlaceholder decodeWriteData decodeBurstData at h
  repeat' split at h
  all_goals cases h <;> rfl

/-- The sequencer runs a well-formed bare command from the latch, or the legal operation in CUR. -/
theorem fetch_instr {s : State} {i : Instr} (h : fetch s = .instr i) :
    (isHostOp i = false ∧ s.command.isSome = true ∧ i.wf s.cfg = true) ∨
      (isHostOp i = true ∧ s.command = none ∧ s.busy = true ∧ legal s.cfg s.cur = true ∧
        encode i = .reqOp s.cur.op) := by
  cases hc : s.command with
  | some bytes =>
    cases hd : decodeTx bytes with
    | instr j =>
      simp only [fetch, hc, fetchCommand, decode, hd] at h
      split_ifs at h with hw
      cases h
      exact .inl ⟨decodeTx_isHostOp hd, rfl, hw⟩
    | rejected e => simp [fetch, hc, fetchCommand, decode, hd] at h
  | none =>
    cases hd : decodeReqOp s.cur.op with
    | instr j =>
      simp only [fetch, hc, fetchOperation, decode, hd] at h
      split_ifs at h with hb hl
      cases h
      obtain ⟨hi, he⟩ := decodeReqOp_instr hd
      exact .inr ⟨hi, rfl, hb, hl, he⟩
    | rejected e =>
      simp only [fetch, hc, fetchOperation, decode, hd] at h
      split_ifs at h

/-! ### What an exchange leaves -/

/-- An exchange keeps the parameters, REQ_*, CUR, FAULTED and the host's queue, and draws one
answer. -/
theorem exchange_keeps (i : Instr) (tx : List Byte) (s : State) :
    KeepsOutside s (exchange tx (onOkOf i) (onErrOf i) s) ∧
      DrawTaken s (exchange tx (onOkOf i) (onErrOf i) s) := by
  rcases exchange_cases tx (onOkOf i) (onErrOf i) s with ⟨g, -, ht⟩ | ⟨-, ht⟩ | ⟨-, ht⟩ <;> rw [ht]
  · obtain ⟨hcfg, hreq, hcur, hraised, hqueue, hans, hdraws⟩ :=
      onOkOf_keeps i (receive s tx.length g) (storeRx (receive s tx.length g) (sendTx tx s))
    exact ⟨⟨hcfg, hreq, hcur, hraised, hqueue⟩, congrArg List.tail hans, congrArg (· + 1) hdraws⟩
  · obtain ⟨hcfg, hreq, hcur, hraised, hqueue, hans, hdraws⟩ := onErrOf_keeps i (sendTx tx s)
    exact ⟨⟨hcfg, hreq, hcur, hraised, hqueue⟩, congrArg List.tail hans, congrArg (· + 1) hdraws⟩
  · exact ⟨⟨rfl, rfl, rfl, rfl, rfl⟩, rfl, rfl⟩

theorem onOkOf_command {i : Instr} (hi : isHostOp i = false) (rx : List Byte) (s : State) :
    onOkOf i rx s = dropCommand s := by
  cases i with
  | read | write | writeEEPROM | setZeroPoint | continuousRead => rfl
  | _ => cases hi

theorem onOkOf_inFlight (i : Instr) (rx : List Byte) (s : State) :
    (onOkOf i rx s).inFlight = s.inFlight := by
  cases i with
  | angleReadBytewise => simp only [onOkOf, completeAngleByte]; split <;> rfl
  | _ => rfl

/-- `Err` ends whatever runs with TRANSPORT_ERROR (60_exceptions.md R202). -/
theorem onErrOf_ends (i : Instr) (s : State) : Ended .transportError (onErrOf i s) := by
  unfold onErrOf; split <;> simp [Ended]

theorem onErrOf_out (i : Instr) (s : State) : (onErrOf i s).out = s.out := by
  unfold onErrOf; split <;> rfl

theorem onErrOf_last (i : Instr) (s : State) :
    (onErrOf i s).last =
      { s.last with rx := (List.range s.cfg.burstMaxTotal).map (Config.freeLastRx s.draws) } := by
  unfold onErrOf; split <;> rfl

/-- An operation of one exchange ends on `Ok`; the first three exchanges of ANGLE_READ_BYTEWISE
only advance STEP. -/
theorem onOkOf_ends_or_advances {i : Instr} (hi : isHostOp i = true) (rx : List Byte) {s : State}
    (hf : s.inFlight = false) :
    (∃ code, code ≠ .noResult ∧ Ended code (onOkOf i rx s)) ∨
      (i = .angleReadBytewise ∧ s.stepIdx.toNat < 3 ∧
        onOkOf i rx s =
          { s with sacc := setSampleByte s.sacc s.stepIdx (byteAt rx 2)
                   stepIdx := s.stepIdx + 1 }) := by
  cases i with
  | read | write | writeEEPROM | setZeroPoint | continuousRead => cases hi
  | regRead | regWrite | burstRead | eepromWrite | setZero | abzResWrite =>
    exact .inl ⟨.ok, by simp, rfl, rfl, rfl, rfl, hf⟩
  | angleReadBurst => exact .inl ⟨_, angleCode_ne_noResult _ _, rfl, rfl, rfl, rfl, hf⟩
  | angleReadBytewise =>
    by_cases h3 : s.stepIdx.toNat < 3
    · exact .inr ⟨rfl, h3, completeAngleByte_advance h3 rx⟩
    · rw [onOkOf, completeAngleByte_last h3]
      exact .inl ⟨_, angleCode_ne_noResult _ _, rfl, rfl, rfl, rfl, hf⟩

/-- What an exchange does to BUSY, DONE, RESULT and STEP: it ends with a RESULT code, leaves them,
or advances STEP. -/
theorem exchange_status (i : Instr) (tx : List Byte) (s : State) :
    (∃ code, code ≠ .noResult ∧ Ended code (exchange tx (onOkOf i) (onErrOf i) s)) ∨
      KeepsStatus s (exchange tx (onOkOf i) (onErrOf i) s) ∨
      (i = .angleReadBytewise ∧ s.stepIdx.toNat < 3 ∧
        (exchange tx (onOkOf i) (onErrOf i) s).busy = s.busy ∧
        (exchange tx (onOkOf i) (onErrOf i) s).done = s.done ∧
        (exchange tx (onOkOf i) (onErrOf i) s).result = s.result ∧
        (exchange tx (onOkOf i) (onErrOf i) s).stepIdx = s.stepIdx + 1) := by
  rcases exchange_cases tx (onOkOf i) (onErrOf i) s with ⟨g, -, ht⟩ | ⟨-, ht⟩ | ⟨-, ht⟩ <;> rw [ht]
  · cases hi : isHostOp i with
    | false =>
      rw [onOkOf_command hi]
      exact .inr (.inl ⟨rfl, rfl, rfl, rfl⟩)
    | true =>
      rcases onOkOf_ends_or_advances hi (receive s tx.length g)
        (storeRx_inFlight (receive s tx.length g) (sendTx tx s)) with he | ⟨rfl, h3, ho⟩
      · exact .inl he
      · rw [ho]
        exact .inr (.inr ⟨rfl, h3, rfl, rfl, rfl, rfl⟩)
  · exact .inl ⟨.transportError, by simp, onErrOf_ends i (sendTx tx s)⟩
  · exact .inr (.inl ⟨rfl, rfl, rfl, rfl⟩)

/-! ### The invariant's parts -/

/-- The part of the invariant that speaks of lengths and array contents. -/
abbrev Shaped (s : State) : Prop := s.cfg.wf = true ∧ Sized s ∧ TailsZero s

theorem burstMaxTotal_bounds {c : Config} (h : c.wf = true) :
    6 ≤ c.burstMaxTotal ∧ c.burstMaxTotal ≤ 255 := by
  simpa [Config.wf] using h

theorem burstLengthOk_iff (c : Config) (n : Byte) :
    burstLengthOk c n = true ↔ 3 ≤ n.toNat ∧ n.toNat ≤ c.burstMaxTotal := by
  simp [burstLengthOk]

/-- A legal request for a BURST_READ has a legal length (30_encoding.md R84). -/
theorem burstLengthOk_of_legal {c : Config} {r : Request} (h : legal c r = true)
    (hop : r.op = 0x3) : burstLengthOk c r.tlen = true := by
  simp only [legal, hop, Bool.and_eq_true] at h
  simpa using h.2

theorem wf_of_isHostOp {i : Instr} (hi : isHostOp i = true) (c : Config) : i.wf c = true := by
  cases i with
  | read | write | writeEEPROM | setZeroPoint | continuousRead => cases hi
  | _ => rfl

/-- An exchange fits in LAST_TX: its length is at most BURST_MAX_TOTAL. -/
theorem txOf_length_le {i : Instr} {s : State} (hc : s.cfg.wf = true) (hi : i.wf s.cfg = true)
    (hb : i = .burstRead → burstLengthOk s.cfg s.cur.tlen = true) :
    (txOf i s).length ≤ s.cfg.burstMaxTotal := by
  obtain ⟨hmin, -⟩ := burstMaxTotal_bounds hc
  cases i with
  | read | writeEEPROM | setZeroPoint | regRead | eepromWrite | setZero | angleReadBytewise =>
    exact (by omega : 3 ≤ s.cfg.burstMaxTotal)
  | write a d => exact (writeBytes_length_le a d).trans (by omega)
  | regWrite => exact (writeBytes_length_le _ _).trans (by omega)
  | abzResWrite => exact (writeBytes_length_le _ _).trans (by omega)
  | angleReadBurst => exact hmin
  | continuousRead a n =>
    obtain ⟨h3, hn⟩ := (burstLengthOk_iff _ _).mp hi
    simp only [txOf, burstBytes_length]
    omega
  | burstRead =>
    obtain ⟨h3, hn⟩ := (burstLengthOk_iff _ _).mp (hb rfl)
    simp only [txOf, txBurstRead, burstBytes_length]
    omega

theorem shaped_sendTx {s : State} {tx : List Byte} (h : Shaped s)
    (hl : tx.length ≤ s.cfg.burstMaxTotal) : Shaped (sendTx tx s) := by
  obtain ⟨hc, ⟨hburst, -, hrx⟩, -, -, hcount, hdata⟩ := h
  have hlen : (BitVec.ofNat 8 tx.length).toNat = tx.length := by
    have := burstMaxTotal_bounds hc
    exact Nat.mod_eq_of_lt (by omega)
  refine ⟨hc, ⟨hburst, fillArray_length _ _, hrx⟩, ?_, ?_, hcount, hdata⟩
  · exact hlen ▸ hl
  · exact fillArray_tail_zero _ _ _ hlen.ge

theorem shaped_storeRx {s : State} (h : Shaped s) (rx : List Byte) : Shaped (storeRx rx s) := by
  obtain ⟨hc, ⟨hburst, htx, -⟩, htails⟩ := h
  exact ⟨hc, ⟨hburst, htx, fillArray_length _ _⟩, htails⟩

theorem shaped_onErrOf {s : State} (h : Shaped s) (i : Instr) : Shaped (onErrOf i s) := by
  obtain ⟨hc, ⟨hburst, htx, -⟩, htails⟩ := h
  have hcfg := (onErrOf_keeps i s).1
  simp only [Shaped, Sized, TailsZero, hcfg, onErrOf_out, onErrOf_last]
  exact ⟨hc, ⟨hburst, htx, by simp⟩, htails⟩

/-- BURST_READ of a legal length leaves BURST_COUNT in range and BURST_DATA zero above it (R35,
R36). -/
theorem shaped_completeBurst {s : State} {rx : List Byte} (h : Shaped s)
    (hb : burstLengthOk s.cfg s.cur.tlen = true) (hrx : rx.length ≤ s.cur.tlen.toNat) :
    Shaped (completeBurst rx s) := by
  obtain ⟨hc, ⟨-, htx, hlrx⟩, hlen, htail, -, -⟩ := h
  obtain ⟨h3, hn⟩ := (burstLengthOk_iff _ _).mp hb
  have hcount : (s.cur.tlen - 2).toNat = s.cur.tlen.toNat - 2 := by bv_omega
  refine ⟨hc, ⟨fillArray_length _ _, htx, hlrx⟩, hlen, htail, ?_, ?_⟩
  · change (s.cur.tlen - 2).toNat ≤ s.cfg.burstMaxTotal - 2
    omega
  · refine fillArray_tail_zero _ _ _ ?_
    change (rx.drop 2).length ≤ (s.cur.tlen - 2).toNat
    rw [List.length_drop, hcount]
    omega

/-- What follows `Ok` keeps LAST_*. -/
theorem onOkOf_last (i : Instr) (rx : List Byte) (s : State) : (onOkOf i rx s).last = s.last := by
  cases i with
  | angleReadBytewise => simp only [onOkOf, completeAngleByte]; split <;> rfl
  | _ => rfl

/-- Only BURST_READ writes BURST_COUNT and BURST_DATA. -/
theorem onOkOf_burst {i : Instr} (hi : i ≠ .burstRead) (rx : List Byte) (s : State) :
    (onOkOf i rx s).out.burstCount = s.out.burstCount ∧
      (onOkOf i rx s).out.burstData = s.out.burstData := by
  cases i with
  | burstRead => exact absurd rfl hi
  | angleReadBytewise => simp only [onOkOf, completeAngleByte]; split <;> exact ⟨rfl, rfl⟩
  | _ => exact ⟨rfl, rfl⟩

theorem shaped_onOkOf {i : Instr} {s : State} {rx : List Byte} (h : Shaped s)
    (hb : i = .burstRead →
      burstLengthOk s.cfg s.cur.tlen = true ∧ rx.length ≤ s.cur.tlen.toNat) :
    Shaped (onOkOf i rx s) := by
  by_cases hi : i = .burstRead
  · obtain ⟨hlegal, hrx⟩ := hb hi
    subst hi
    exact shaped_completeBurst h hlegal hrx
  · obtain ⟨hcount, hdata⟩ := onOkOf_burst hi rx s
    have hcfg := (onOkOf_keeps i rx s).1
    simpa only [Shaped, Sized, TailsZero, hcfg, onOkOf_last, hcount, hdata] using h

theorem shaped_exchange {i : Instr} {s : State} (h : Shaped s) (hi : i.wf s.cfg = true)
    (hb : i = .burstRead → burstLengthOk s.cfg s.cur.tlen = true) :
    Shaped (exchange (txOf i s) (onOkOf i) (onErrOf i) s) := by
  have hsent : Shaped (sendTx (txOf i s) s) := shaped_sendTx h (txOf_length_le h.1 hi hb)
  rcases exchange_cases (txOf i s) (onOkOf i) (onErrOf i) s with ⟨g, -, ht⟩ | ⟨-, ht⟩ | ⟨-, ht⟩ <;>
    rw [ht]
  · refine shaped_onOkOf (shaped_storeRx hsent _) fun hburst => ⟨hb hburst, ?_⟩
    obtain ⟨h3, -⟩ := (burstLengthOk_iff _ _).mp (hb hburst)
    subst hburst
    simp only [receive_length, txOf, txBurstRead, burstBytes_length, storeRx_cur, sendTx_cur]
    omega
  · exact shaped_onErrOf hsent i
  · exact hsent

/-- An ending leaves BUSY, DONE, RESULT and STEP in agreement. -/
theorem phasesAgree_of_ended {code : ResultCode} {t : State} (hcode : code ≠ .noResult)
    (h : Ended code t) : PhasesAgree t := by
  obtain ⟨hbusy, hdone, hresult, hstep, -⟩ := h
  simp [PhasesAgree, hbusy, hdone, hresult, hstep, hcode]

theorem phasesAgree_exchange {i : Instr} {s : State} (h : PhasesAgree s)
    (hop : i = .angleReadBytewise → s.busy = true ∧ s.cur.op = 0x7) (tx : List Byte) :
    PhasesAgree (exchange tx (onOkOf i) (onErrOf i) s) := by
  obtain ⟨⟨hcfg, -, hcur, -, -⟩, -⟩ := exchange_keeps i tx s
  rcases exchange_status i tx s with ⟨code, hcode, he⟩ | ⟨hbusy, hdone, hresult, hstep⟩ |
    ⟨hi, h3, hbusy, hdone, hresult, hstep⟩
  · exact phasesAgree_of_ended hcode he
  · simpa only [PhasesAgree, hcfg, hcur, hbusy, hdone, hresult, hstep] using h
  · obtain ⟨hb, hcode⟩ := hop hi
    obtain ⟨hnotDone, hres, hrun, -⟩ := h
    have hlt : (s.stepIdx + 1).toNat < nexch s.cur.op := by
      rw [hcode]
      change (s.stepIdx + 1).toNat < 4
      omega
    simp only [PhasesAgree, hcfg, hcur, hbusy, hdone, hresult, hstep]
    exact ⟨hnotDone, hres, fun _ => ⟨(hrun hb).1, hlt⟩, fun hidle => by simp [hb] at hidle⟩

/-- Only an unanswered exchange is left in flight, and it keeps its owner. -/
theorem flightOwned_exchange {i : Instr} {s : State}
    (h : s.busy = true ∨ s.command.isSome = true) (tx : List Byte) :
    FlightOwned (exchange tx (onOkOf i) (onErrOf i) s) := by
  rcases exchange_cases tx (onOkOf i) (onErrOf i) s with ⟨g, -, ht⟩ | ⟨-, ht⟩ | ⟨-, ht⟩ <;> rw [ht]
  · intro hf
    simp [onOkOf_inFlight] at hf
  · intro hf
    obtain ⟨-, -, -, -, hidle⟩ := onErrOf_ends i (sendTx tx s)
    simp [hidle] at hf
  · exact fun _ => h

/-! ### The invariant is kept -/

theorem inv_iff (s : State) : s.Inv ↔ Shaped s ∧ PhasesAgree s ∧ FlightOwned s := by
  simp only [State.Inv, Shaped]; tauto

theorem inv_resetWith {c : Config} (h : c.wf = true) : (State.resetWith c).Inv := by
  refine ⟨h, ?_, ?_, ?_, ?_⟩
  · simp [Sized, State.resetWith, Results.zero, LastExchange.zero]
  · simp [PhasesAgree, State.resetWith]
  · simp [FlightOwned, State.resetWith]
  · simp [TailsZero, State.resetWith, Results.zero, LastExchange.zero]

theorem inv_hostWrite {s : State} (h : s.Inv) (r : HostReg) (v : Nat) : (hostWrite r v s).Inv := by
  rcases hostWrite_cases r v s with ⟨q, ht⟩ | ⟨f, ht⟩ <;> rw [ht] <;> exact h

/-- Everything a START can do (10_state.md R29; 60_exceptions.md R203, R204). -/
theorem startOp_cases (s : State) :
    (s.busy = true ∧ startOp s = raise .startWhileBusy s) ∨
      (s.busy = false ∧ legal s.cfg s.req = true ∧ startOp s = { latch s with busy := true }) ∨
      (s.busy = false ∧ legal s.cfg s.req = false ∧
        startOp s = { latch s with result := .illegalOp, done := true }) := by
  cases hb : s.busy <;> cases hl : legal s.cfg s.req <;> simp [startOp, hb, hl]

theorem nexch_pos (op : BitVec 4) : 0 < nexch op := by
  unfold nexch; split <;> omega

theorem inv_startOp {s : State} (h : s.Inv) : (startOp s).Inv := by
  obtain ⟨hshape, hphase, hflight⟩ := (inv_iff s).mp h
  rcases startOp_cases s with ⟨-, ht⟩ | ⟨-, hl, ht⟩ | ⟨hb, -, ht⟩ <;> rw [ht]
  · exact h
  · refine (inv_iff _).mpr ⟨hshape, ?_, fun _ => .inl rfl⟩
    simp [PhasesAgree, hl, nexch_pos]
  · refine (inv_iff _).mpr ⟨hshape, ?_, hflight⟩
    simp [PhasesAgree, hb]

theorem inv_exchange {s : State} {i : Instr} (h : s.Inv) (hf : fetch s = .instr i) :
    (exchange (txOf i s) (onOkOf i) (onErrOf i) s).Inv := by
  obtain ⟨hshape, hphase, -⟩ := (inv_iff s).mp h
  rcases fetch_instr hf with ⟨hi, hcommand, hwf⟩ | ⟨hi, -, hbusy, hlegal, hcode⟩
  · exact (inv_iff _).mpr
      ⟨shaped_exchange hshape hwf (by rintro rfl; cases hi),
        phasesAgree_exchange hphase (by rintro rfl; cases hi) _,
        flightOwned_exchange (.inr hcommand) _⟩
  · refine (inv_iff _).mpr
      ⟨shaped_exchange hshape (wf_of_isHostOp hi s.cfg) ?_, phasesAgree_exchange hphase ?_ _,
        flightOwned_exchange (.inl hbusy) _⟩
    · rintro rfl
      exact burstLengthOk_of_legal hlegal (Code.reqOp.inj hcode).symm
    · rintro rfl
      exact ⟨hbusy, (Code.reqOp.inj hcode).symm⟩

/-- Settles O46: every action of the host and every exchange keeps each part of the invariant. -/
theorem stepKeepsInv : Obligations.StepKeepsInv := by
  intro s t h hst
  cases stepsTo_of_step hst with
  | write r v rest => exact inv_hostWrite (s := { s with hostQueue := rest }) h r v
  | start rest => exact inv_startOp (s := { s with hostQueue := rest }) h
  | reset => exact inv_resetWith h.1
  | noEffect => exact h
  | run q i hf =>
    rw [← txOf_hostQueue i s q]
    exact inv_exchange (s := { s with hostQueue := q }) h hf

/-- Settles O45, by `inv_resetWith`. -/
theorem invAtReset : Obligations.InvAtReset :=
  ⟨fun _ => inv_resetWith, inv_resetWith (by decide)⟩

/-! ### Who changes what -/

/-- Settles O43: every instruction is one exchange. -/
theorem everyInstructionRuns : Obligations.EveryInstructionRuns := fun i s =>
  ⟨_, exec_eq_exchange i s, exchange_keeps i (txOf i s) s⟩

theorem startOp_keeps (s : State) :
    (startOp s).cfg = s.cfg ∧ (startOp s).req = s.req ∧ (startOp s).out = s.out := by
  rcases startOp_cases s with ⟨-, ht⟩ | ⟨-, -, ht⟩ | ⟨-, -, ht⟩ <;> rw [ht] <;>
    exact ⟨rfl, rfl, rfl⟩

/-- A host write changes nothing of the block but REQ_* and FAULTED. -/
theorem hostWrite_keeps (r : HostReg) (v : Nat) (s : State) :
    (hostWrite r v s).cfg = s.cfg ∧ (hostWrite r v s).cur = s.cur ∧
      (hostWrite r v s).busy = s.busy ∧ (hostWrite r v s).out = s.out := by
  rcases hostWrite_cases r v s with ⟨q, ht⟩ | ⟨f, ht⟩ <;> rw [ht] <;> exact ⟨rfl, rfl, rfl, rfl⟩

/-- Settles O50: START and a reset write CUR, a host write and a reset write REQ_*, and an exchange
keeps both. -/
theorem requestsChangeOnlyByTheHost : Obligations.RequestsChangeOnlyByTheHost := by
  intro s t hst
  cases stepsTo_of_step hst with
  | write r v rest hq =>
    obtain ⟨hcfg, hcur, -, -⟩ := hostWrite_keeps r v { s with hostQueue := rest }
    exact ⟨hcfg, fun hne => absurd hcur hne, fun _ => .inl ⟨r, v, by simp [hq]⟩⟩
  | start rest hq =>
    obtain ⟨hcfg, hreq, -⟩ := startOp_keeps { s with hostQueue := rest }
    exact ⟨hcfg, fun _ => .inl (by simp [hq]), fun hne => absurd hreq hne⟩
  | reset rest hq => exact ⟨rfl, fun _ => .inr (by simp [hq]), fun _ => .inr (by simp [hq])⟩
  | noEffect => exact ⟨rfl, fun hne => absurd rfl hne, fun hne => absurd rfl hne⟩
  | run q i hf =>
    obtain ⟨⟨hcfg, hreq, hcur, -, -⟩, -⟩ := exchange_keeps i (txOf i s) { s with hostQueue := q }
    exact ⟨hcfg, fun hne => absurd hcur hne, fun hne => absurd hreq hne⟩

/-- A flag that is the same before and after neither rises nor falls. -/
theorem no_change_of_eq {b b' : Bool} (h : b' = b) {rise fall : Prop} :
    (b = false → b' = true → rise) ∧ (b = true → b' = false → fall) := by
  subst h
  cases b' <;> simp

/-- Settles O49: outside START and a reset, BUSY changes only where an exchange ends. -/
theorem busyChanges : Obligations.BusyChanges := by
  intro s t hst
  cases stepsTo_of_step hst with
  | write r v rest =>
    obtain ⟨-, -, hbusy, -⟩ := hostWrite_keeps r v { s with hostQueue := rest }
    exact no_change_of_eq hbusy
  | start rest hq =>
    rcases startOp_cases { s with hostQueue := rest } with ⟨-, ht⟩ | ⟨hb, hl, ht⟩ | ⟨-, -, ht⟩ <;>
      rw [ht]
    · exact no_change_of_eq rfl
    · exact ⟨fun _ _ => ⟨by simp [hq], hl⟩,
        fun hbusy => absurd (hb.symm.trans hbusy) Bool.false_ne_true⟩
    · exact no_change_of_eq rfl
  | reset rest hq => simp [hq]
  | noEffect => exact no_change_of_eq rfl
  | run q i hf =>
    rcases exchange_status i (txOf i s) { s with hostQueue := q } with
      ⟨code, hcode, hbusy, hdone, hresult, -⟩ | ⟨hbusy, -⟩ | ⟨-, -, hbusy, -⟩
    · exact ⟨fun _ hrise => by simp [hbusy] at hrise, fun _ _ => .inl ⟨hdone, hresult ▸ hcode⟩⟩
    · exact no_change_of_eq hbusy
    · exact no_change_of_eq hbusy

/-! ### Host writes -/

/-- The request with the field of an RW register set to `v`. -/
def writeReq (r : HostReg) (v : Nat) (q : Request) : Request :=
  match r with
  | .reqOp => { q with op := BitVec.ofNat 4 v }
  | .reqAddr => { q with addr := BitVec.ofNat 12 v }
  | .reqWdata => { q with wdata := BitVec.ofNat 8 v }
  | .reqTlen => { q with tlen := BitVec.ofNat 8 v }
  | .reqRes => { q with res := BitVec.ofNat 14 v }
  | .reqAbSwap => { q with abSwap := v == 1 }
  | .reqAbzOff => { q with abzOff := v == 1 }
  | _ => q

/-- A write to an RW register is a checked write of its field. -/
theorem hostWrite_rw {r : HostReg} {w : Nat} {f : OperandField} (h : rwField r = some (w, f))
    (v : Nat) (s : State) : hostWrite r v s = writeField w f v (writeReq r v s.req) s := by
  cases r <;> cases h <;> rfl

/-- A write to an RO register has no effect. -/
theorem hostWrite_ro {r : HostReg} (h : rwField r = none) (v : Nat) (s : State) :
    hostWrite r v s = s := by
  cases r with
  | reqOp | reqAddr | reqWdata | reqTlen | reqRes | reqAbSwap | reqAbzOff => cases h
  | _ => rfl

theorem boolOfNat_toNat {v : Nat} (h : v < 2) : (v == 1).toNat = v := by
  interval_cases v <;> rfl

/-- An RW register reads back the value that was written. -/
theorem hostRead_writeReq_same {r : HostReg} {w v : Nat} {f : OperandField}
    (h : rwField r = some (w, f)) (hv : v < 2 ^ w) (s : State) :
    hostRead { s with req := writeReq r v s.req } r = some v := by
  cases r with
  | reqOp | reqAddr | reqWdata | reqTlen | reqRes =>
    cases h
    exact congrArg some (Nat.mod_eq_of_lt hv)
  | reqAbSwap | reqAbzOff =>
    cases h
    exact congrArg some (boolOfNat_toNat hv)
  | _ => cases h

/-- No other register shows the write. -/
theorem hostRead_writeReq_other {r r' : HostReg} (h : r' ≠ r) (v : Nat) (s : State) :
    hostRead { s with req := writeReq r v s.req } r' = hostRead s r' := by
  cases r' with
  | reqOp | reqAddr | reqWdata | reqTlen | reqRes | reqAbSwap | reqAbzOff =>
    cases r <;> simp_all [hostRead, writeReq]
  | _ => rfl

theorem step_write {s : State} {r : HostReg} {v : Nat} {rest : List HostAction}
    (hr : s.raised = none) (hq : s.hostQueue = .write r v :: rest) :
    step s = .next (hostWrite r v { s with hostQueue := rest }) :=
  step_of_host (nextMove_host hr hq)

/-- Settles O21: a write to an RW register is a checked write of one field of REQ_*. -/
theorem hostWrites : Obligations.HostWrites := by
  intro s rest r v hr hq
  rw [step_write hr hq]
  refine ⟨fun w f hrw hv => ⟨writeReq r v s.req, ?_, ?_, ?_⟩, fun w f hrw hv => ?_, fun hro => ?_⟩
  · rw [hostWrite_rw hrw, writeField, if_pos hv]
  · exact hostRead_writeReq_same hrw hv { s with hostQueue := rest }
  · intro r' hne
    exact hostRead_writeReq_other hne v { s with hostQueue := rest }
  · rw [hostWrite_rw hrw, writeField, if_neg (Nat.not_lt.mpr hv), raise]
  · rw [hostWrite_ro hro]

/-- A write that sets FAULTED is of a value too wide for an RW register, and the fault names it. -/
theorem hostWrite_raised {r : HostReg} {v : Nat} {s : State} {f : Fault} (hs : s.raised = none)
    (h : (hostWrite r v s).raised = some f) :
    ∃ w fld, rwField r = some (w, fld) ∧ 2 ^ w ≤ v ∧ f = .operandOutOfRange fld v := by
  cases hrw : rwField r with
  | none => simp [hostWrite_ro hrw, hs] at h
  | some field =>
    obtain ⟨w, fld⟩ := field
    rw [hostWrite_rw hrw, writeField] at h
    split_ifs at h with hv
    · simp [hs] at h
    · exact ⟨w, fld, rfl, Nat.not_lt.mp hv, (Option.some.inj h).symm⟩

/-- Settles O25: of the host's actions and the exchanges, only START and a write raise. -/
theorem faultsOnlyFromBrokenDuties : Obligations.FaultsOnlyFromBrokenDuties := by
  intro s t f hs hst hf
  cases stepsTo_of_step hst with
  | write r v rest hq =>
    obtain ⟨w, fld, hrw, hv, rfl⟩ := hostWrite_raised (s := { s with hostQueue := rest }) hs hf
    exact .inr ⟨r, v, w, fld, rest, hq, hrw, hv, rfl⟩
  | start rest hq =>
    rcases startOp_cases { s with hostQueue := rest } with ⟨hb, ht⟩ | ⟨-, -, ht⟩ | ⟨-, -, ht⟩ <;>
      rw [ht] at hf
    · exact .inl ⟨rest, hq, hb, (Option.some.inj hf).symm⟩
    · simp [hs] at hf
    · simp [hs] at hf
  | reset rest hq => simp at hf
  | noEffect => simp [hs] at hf
  | run q i _ =>
    obtain ⟨⟨-, -, -, hraised, -⟩, -⟩ := exchange_keeps i (txOf i s) { s with hostQueue := q }
    rw [hraised] at hf
    simp [hs] at hf

/-! ### Host reads, START, reset and the sequencer's turn -/

/-- Settles O22: the read is taken from the queue, and that is all. -/
theorem hostReadsHaveNoEffect : Obligations.HostReadsHaveNoEffect := fun _ _ _ hr hq =>
  step_of_host (nextMove_host hr hq)

/-- Settles O18: with BUSY = 0 START has two cases, the request legal or not. -/
theorem startLatchesAndChecks : Obligations.StartLatchesAndChecks := by
  intro s rest hr hq hb
  refine ⟨_, step_of_host (nextMove_host hr hq), ?_⟩
  rcases startOp_cases { s with hostQueue := rest } with ⟨hb', -⟩ | ⟨-, hl, ht⟩ | ⟨-, hl, ht⟩
  · simp [hb] at hb'
  · rw [ht]
    exact ⟨rfl, rfl, rfl, rfl, rfl, rfl, hr, rfl, rfl, rfl, rfl, rfl, rfl,
      fun _ => ⟨rfl, rfl, rfl⟩, fun hill => absurd (hill.symm.trans hl) Bool.false_ne_true⟩
  · rw [ht]
    exact ⟨rfl, rfl, rfl, rfl, rfl, rfl, hr, rfl, rfl, rfl, rfl, rfl, rfl,
      fun hleg => absurd (hl.symm.trans hleg) Bool.false_ne_true, fun _ => ⟨hb, rfl, rfl⟩⟩

theorem readEntry_replicate_zero {n i v : Nat} (h : readEntry (List.replicate n 0) i = some v) :
    v = 0 := by
  simp only [readEntry, List.getElem?_replicate] at h
  split_ifs at h with hi
  · simpa using h.symm
  · cases h

theorem hostRead_resetWith {c : Config} {r : HostReg} {v : Nat}
    (h : hostRead (State.resetWith c) r = some v) : v = 0 := by
  cases r with
  | burstData | lastTx | lastRx => exact readEntry_replicate_zero h
  | sample i => exact readEntry_replicate_zero (n := 4) h
  | _ => exact (Option.some.inj h).symm

/-- Settles O23: the reset state holds zeros, and its sequencer is idle. -/
theorem resetValues : Obligations.ResetValues := fun _ =>
  ⟨fun _ _ => hostRead_resetWith, rfl, rfl, rfl, rfl, rfl, rfl,
    step_of_idle (nextMove_quiet rfl rfl) rfl⟩

theorem nextMove_of_sequencerTurn {s t : State} (h : SequencerTurn s t) :
    nextMove s = .sequencer t := by
  obtain ⟨hr, ⟨hq, rfl⟩ | ⟨rest, hq, rfl⟩ | ⟨rest, hq, hd, rfl⟩⟩ := h
  · exact nextMove_quiet hr hq
  · exact nextMove_host hr hq
  · exact (nextMove_host hr hq).trans (if_neg (by simp [hd]))

theorem fetch_of_sequencerTurn {s t : State} (h : SequencerTurn s t) : fetch t = fetch s := by
  obtain ⟨-, ⟨-, rfl⟩ | ⟨rest, -, rfl⟩ | ⟨rest, -, -, rfl⟩⟩ := h <;> rfl

/-- Settles O44: a turn changes nothing that the fetch reads. -/
theorem stepRunsDecoded : Obligations.StepRunsDecoded := by
  intro s t hturn
  have hm := nextMove_of_sequencerTurn hturn
  have hfetch := fetch_of_sequencerTurn hturn
  refine ⟨fun bytes i hc hd hw => step_of_instr hm (hfetch.trans ?_),
    fun i hc hb hl hd => step_of_instr hm (hfetch.trans ?_),
    fun hc hb => step_of_idle hm (hfetch.trans ?_)⟩
  · simp [fetch, fetchCommand, hc, hd, hw]
  · simp [fetch, fetchOperation, hc, hb, hd, hl]
  · simp [fetch, hc, hb]

theorem readEntry_eq (xs : List Byte) (i : Nat) :
    readEntry xs i = if i < xs.length then some (byteAt xs i).toNat else none := by
  by_cases hi : i < xs.length
  · simp [readEntry, byteAt, hi]
  · simp [readEntry, hi]

theorem code_toNat (code : ResultCode) : code.code.toNat = resultNumber code := by
  cases code <;> rfl

theorem flag_toNat (b : Bool) : some b.toNat = some (if b then 1 else 0) := by
  cases b <;> rfl

/-- Settles O58: flags and RESULT show their numbers, and an array entry its byte. -/
theorem hostReadsShowRegisters : Obligations.HostReadsShowRegisters := by
  intro s
  exact ⟨rfl, rfl, rfl, rfl, rfl, flag_toNat _, flag_toNat _, flag_toNat _,
    flag_toNat _, congrArg some (code_toNat s.result), rfl, rfl, rfl,
    readEntry_eq _, readEntry_eq _, rfl, rfl, rfl, rfl, readEntry_eq _, readEntry_eq _⟩

/-! ### Who writes the result registers -/

/-- Everything a step can do to the result registers: a reset clears them, the completion of the
operation in CUR writes its own, and all else keeps them. -/
theorem step_out_cases {s t : State} (h : step s = .next t) :
    (s.hostQueue.head? = some .reset ∧ t.out = Results.zero s.cfg) ∨ t.out = s.out ∨
      ∃ i rx u, isHostOp i = true ∧ s.busy = true ∧ encode i = .reqOp s.cur.op ∧
        u.cfg = s.cfg ∧ u.out = s.out ∧ u.inFlight = false ∧ t = takeAnswer (onOkOf i rx u) := by
  cases stepsTo_of_step h with
  | write r v rest =>
    obtain ⟨-, -, -, hout⟩ := hostWrite_keeps r v { s with hostQueue := rest }
    exact .inr (.inl hout)
  | start rest =>
    obtain ⟨-, -, hout⟩ := startOp_keeps { s with hostQueue := rest }
    exact .inr (.inl hout)
  | reset rest hq => exact .inl ⟨by simp [hq], rfl⟩
  | noEffect => exact .inr (.inl rfl)
  | run q i hf =>
    rcases exchange_cases (txOf i s) (onOkOf i) (onErrOf i) { s with hostQueue := q } with
      ⟨g, -, ht⟩ | ⟨-, ht⟩ | ⟨-, ht⟩ <;> rw [ht]
    · rcases fetch_instr hf with ⟨hi, -⟩ | ⟨hi, -, hbusy, -, hcode⟩
      · rw [onOkOf_command hi]
        exact .inr (.inl rfl)
      · exact .inr (.inr ⟨i, _, storeRx _ (sendTx (txOf i s) { s with hostQueue := q }), hi, hbusy,
          hcode, rfl, rfl, rfl, rfl⟩)
    · exact .inr (.inl (onErrOf_out i _))
    · exact .inr (.inl rfl)

theorem crcAgrees_onOkOf {s : State} (h : CrcAgrees s) (i : Instr) (rx : List Byte) :
    CrcAgrees (onOkOf i rx s) := by
  cases i with
  | angleReadBurst => exact rfl
  | angleReadBytewise =>
    simp only [onOkOf, completeAngleByte]
    split
    · exact h
    · exact rfl
  | _ => exact h

theorem step_cfg {s t : State} (h : step s = .next t) : t.cfg = s.cfg :=
  (requestsChangeOnlyByTheHost s t h).1

/-- Settles O47: only the validation step writes SAMPLE and CRC_CALC, and it writes both. -/
theorem stepKeepsCrcAgreement : Obligations.StepKeepsCrcAgreement := by
  refine ⟨fun c hc => hc.symm, fun s t hzero h hst => ?_, by decide +kernel⟩
  have hcfg := step_cfg hst
  rcases step_out_cases hst with ⟨-, hout⟩ | hout | ⟨i, rx, u, -, -, -, hucfg, huout, -, rfl⟩
  · rw [CrcAgrees, hout, hcfg]
    exact hzero.symm
  · rwa [CrcAgrees, hout, hcfg]
  · have hu : CrcAgrees u := by rwa [CrcAgrees, huout, hucfg]
    exact crcAgrees_onOkOf hu i rx

/-- What R33 to R40 say of a step outside a reset: a result register that changed was written by an
ending of an operation of its own. -/
abbrev ChangesAreOwned (s t : State) : Prop :=
  (t.out.rdData ≠ s.out.rdData → s.busy = true ∧ s.cur.op = 0x1 ∧ Ended .ok t) ∧
  (t.out.ack ≠ s.out.ack →
    s.busy = true ∧ (s.cur.op = 0x2 ∨ s.cur.op = 0x4 ∨ s.cur.op = 0x5) ∧ Ended .ok t) ∧
  (t.out.burstCount ≠ s.out.burstCount ∨ t.out.burstData ≠ s.out.burstData →
    s.busy = true ∧ s.cur.op = 0x3 ∧ Ended .ok t) ∧
  (t.out.sample ≠ s.out.sample ∨ t.out.crcCalc ≠ s.out.crcCalc →
    s.busy = true ∧ (s.cur.op = 0x6 ∨ s.cur.op = 0x7) ∧ t.done = true) ∧
  (t.out.angleStatus ≠ s.out.angleStatus →
    s.busy = true ∧ (s.cur.op = 0x6 ∨ s.cur.op = 0x7) ∧ (Ended .ok t ∨ Ended .sensorStatus t)) ∧
  (t.out.angleRaw ≠ s.out.angleRaw →
    s.busy = true ∧ (s.cur.op = 0x6 ∨ s.cur.op = 0x7) ∧ Ended .ok t)

theorem changesAreOwned_of_out_eq {s t : State} (h : t.out = s.out) : ChangesAreOwned s t := by
  simp [ChangesAreOwned, h]

theorem angleStatus_changed {c : Config} {x : Sample} {o : Results}
    (h : (angleResults c x o).angleStatus ≠ o.angleStatus) :
    angleCode c x = .ok ∨ angleCode c x = .sensorStatus := by
  cases hcrc : crcOk c x with
  | true =>
    rw [angleCode, if_pos hcrc]
    exact ite_eq_or_eq _ _ _
  | false => simp [angleResults, hcrc] at h

theorem angleRaw_changed {c : Config} {x : Sample} {o : Results}
    (h : (angleResults c x o).angleRaw ≠ o.angleRaw) : angleCode c x = .ok := by
  by_contra hcode
  simp [angleResults, hcode] at h

/-- The validation step writes the angle registers alone, and ends with the code of its sample. -/
theorem changesAreOwned_angleComplete {s u : State} (x : Sample) (hbusy : s.busy = true)
    (hop : s.cur.op = 0x6 ∨ s.cur.op = 0x7) (hout : u.out = s.out) (hidle : u.inFlight = false) :
    ChangesAreOwned s (angleComplete x u) := by
  have hended {code : ResultCode} (h : angleCode u.cfg x = code) :
      Ended code (angleComplete x u) := ⟨rfl, rfl, h, rfl, hidle⟩
  rw [ChangesAreOwned, angleComplete_out, ← hout]
  refine ⟨by simp [angleResults], by simp [angleResults], by simp [angleResults],
    fun _ => ⟨hbusy, hop, rfl⟩, fun h => ⟨hbusy, hop, ?_⟩,
    fun h => ⟨hbusy, hop, hended (angleRaw_changed h)⟩⟩
  exact (angleStatus_changed h).imp hended hended

theorem changesAreOwned_completeAck {s u : State} (rx : List Byte) (hbusy : s.busy = true)
    (hop : s.cur.op = 0x2 ∨ s.cur.op = 0x4 ∨ s.cur.op = 0x5) (hout : u.out = s.out)
    (hidle : u.inFlight = false) : ChangesAreOwned s (completeAck rx u) := by
  refine ⟨?_, fun _ => ⟨hbusy, hop, rfl, rfl, rfl, rfl, hidle⟩, ?_⟩ <;> simp [completeAck, hout]

/-- The completion of each operation writes its own result registers alone. -/
theorem changesAreOwned_onOkOf {s u : State} {i : Instr} (rx : List Byte) (hi : isHostOp i = true)
    (hbusy : s.busy = true) (hcode : encode i = .reqOp s.cur.op) (hout : u.out = s.out)
    (hidle : u.inFlight = false) : ChangesAreOwned s (onOkOf i rx u) := by
  cases i with
  | read | write | writeEEPROM | setZeroPoint | continuousRead => cases hi
  | regRead =>
    have hop : s.cur.op = 0x1 := (Code.reqOp.inj hcode).symm
    simp [ChangesAreOwned, Ended, onOkOf, completeRead, hout, hbusy, hop, hidle]
  | regWrite =>
    exact changesAreOwned_completeAck rx hbusy (.inl (Code.reqOp.inj hcode).symm) hout hidle
  | eepromWrite =>
    exact changesAreOwned_completeAck rx hbusy (.inr (.inl (Code.reqOp.inj hcode).symm)) hout hidle
  | setZero =>
    exact changesAreOwned_completeAck rx hbusy (.inr (.inr (Code.reqOp.inj hcode).symm)) hout hidle
  | burstRead =>
    have hop : s.cur.op = 0x3 := (Code.reqOp.inj hcode).symm
    simp [ChangesAreOwned, Ended, onOkOf, completeBurst, hout, hbusy, hop, hidle]
  | abzResWrite => exact changesAreOwned_of_out_eq hout
  | angleReadBurst =>
    exact changesAreOwned_angleComplete _ hbusy (.inl (Code.reqOp.inj hcode).symm) hout hidle
  | angleReadBytewise =>
    by_cases h3 : u.stepIdx.toNat < 3
    · rw [onOkOf, completeAngleByte_advance h3]
      exact changesAreOwned_of_out_eq hout
    · rw [onOkOf, completeAngleByte_last h3]
      exact changesAreOwned_angleComplete _ hbusy (.inr (Code.reqOp.inj hcode).symm) hout hidle

/-- Settles O48: outside a reset only completions write result registers, each its own. -/
theorem resultsHaveTheirWriters : Obligations.ResultsHaveTheirWriters := by
  intro s t hst hreset
  rcases step_out_cases hst with ⟨hq, -⟩ | hout | ⟨i, rx, u, hi, hbusy, hcode, -, hout, hidle, rfl⟩
  · exact absurd hq hreset
  · exact changesAreOwned_of_out_eq hout
  · exact changesAreOwned_onOkOf rx hi hbusy hcode hout hidle

/-! ### What an operation reads -/

/-- `s` with everything no operation reads taken from `s'`: REQ_*, the result registers, LAST_*, the
exchange in flight, FAULTED, the latch and the host's queue. -/
def withUnread (s s' : State) : State :=
  { s with
    req := s'.req, out := s'.out, last := s'.last, inFlight := s'.inFlight, raised := s'.raised
    command := s'.command, hostQueue := s'.hostQueue }

@[simp] theorem withUnread_cfg (s s' : State) : (withUnread s s').cfg = s.cfg := rfl

theorem txOf_withUnread (i : Instr) (s s' : State) : txOf i (withUnread s s') = txOf i s := by
  cases i <;> rfl

/-- The result registers after two runs, register by register. -/
abbrev ResultsAlike (o₁ o₂ p₁ p₂ : Results) : Prop :=
  SameOrKept o₁.rdData o₂.rdData p₁.rdData p₂.rdData ∧
  SameOrKept o₁.ack o₂.ack p₁.ack p₂.ack ∧
  SameOrKept o₁.burstCount o₂.burstCount p₁.burstCount p₂.burstCount ∧
  SameOrKept o₁.burstData o₂.burstData p₁.burstData p₂.burstData ∧
  SameOrKept o₁.sample o₂.sample p₁.sample p₂.sample ∧
  SameOrKept o₁.crcCalc o₂.crcCalc p₁.crcCalc p₂.crcCalc ∧
  SameOrKept o₁.angleRaw o₂.angleRaw p₁.angleRaw p₂.angleRaw ∧
  SameOrKept o₁.angleStatus o₂.angleStatus p₁.angleStatus p₂.angleStatus

/-- Two runs, from `s₁` to `t₁` and from `s₂` to `t₂`, send the same exchange and end alike. -/
abbrev RunsAlike (s₁ s₂ t₁ t₂ : State) : Prop :=
  t₁.busy = t₂.busy ∧ t₁.done = t₂.done ∧ t₁.result = t₂.result ∧
    t₁.stepIdx = t₂.stepIdx ∧ t₁.sacc = t₂.sacc ∧ t₁.inFlight = t₂.inFlight ∧
    t₁.last.len = t₂.last.len ∧ t₁.last.tx = t₂.last.tx ∧
    SameOrKept s₁.last.rx s₂.last.rx t₁.last.rx t₂.last.rx ∧
    ResultsAlike s₁.out s₂.out t₁.out t₂.out

theorem sameOrKept_ite {α : Type} (p : Prop) [Decidable p] (a₁ a₂ b : α) :
    SameOrKept a₁ a₂ (if p then b else a₁) (if p then b else a₂) := by
  split
  · exact .inl rfl
  · exact .inr ⟨rfl, rfl⟩

theorem resultsAlike_kept (o₁ o₂ : Results) : ResultsAlike o₁ o₂ o₁ o₂ := by
  simp [ResultsAlike, SameOrKept]

theorem resultsAlike_angleResults (c : Config) (x : Sample) (o₁ o₂ : Results) :
    ResultsAlike o₁ o₂ (angleResults c x o₁) (angleResults c x o₂) :=
  ⟨.inr ⟨rfl, rfl⟩, .inr ⟨rfl, rfl⟩, .inr ⟨rfl, rfl⟩, .inr ⟨rfl, rfl⟩, .inl rfl, .inl rfl,
    sameOrKept_ite _ _ _ _, sameOrKept_ite _ _ _ _⟩

/-- A completion writes the same result registers with the same values in both runs. -/
theorem resultsAlike_onOkOf (i : Instr) (rx : List Byte) (s s' : State) :
    ResultsAlike s.out s'.out (onOkOf i rx s).out (onOkOf i rx (withUnread s s')).out := by
  cases i with
  | regRead | regWrite | burstRead | eepromWrite | setZero =>
    simp [ResultsAlike, SameOrKept, onOkOf, completeRead, completeAck, completeBurst, withUnread]
  | angleReadBurst => exact resultsAlike_angleResults _ _ _ _
  | angleReadBytewise =>
    by_cases h3 : s.stepIdx.toNat < 3
    · rw [onOkOf, completeAngleByte_advance h3, completeAngleByte_advance (s := withUnread s s') h3]
      exact resultsAlike_kept _ _
    · rw [onOkOf, completeAngleByte_last h3, completeAngleByte_last (s := withUnread s s') h3]
      exact resultsAlike_angleResults _ _ _ _
  | _ => exact resultsAlike_kept _ _

/-- A completion leaves the same BUSY, DONE, RESULT, STEP and SACC in both runs. -/
theorem status_onOkOf_withUnread {i : Instr} (hi : isHostOp i = true) (rx : List Byte)
    (s s' : State) :
    KeepsStatus (onOkOf i rx s) (onOkOf i rx (withUnread s s')) ∧
      (onOkOf i rx (withUnread s s')).sacc = (onOkOf i rx s).sacc := by
  cases i with
  | angleReadBytewise =>
    by_cases h3 : s.stepIdx.toNat < 3
    · rw [onOkOf, completeAngleByte_advance h3, completeAngleByte_advance (s := withUnread s s') h3]
      exact ⟨⟨rfl, rfl, rfl, rfl⟩, rfl⟩
    · rw [onOkOf, completeAngleByte_last h3, completeAngleByte_last (s := withUnread s s') h3]
      exact ⟨⟨rfl, rfl, rfl, rfl⟩, rfl⟩
  | _ => exact ⟨⟨rfl, rfl, rfl, rfl⟩, rfl⟩

theorem runsAlike_ok {i : Instr} (hi : isHostOp i = true) (rx tx : List Byte) (s s' : State) :
    RunsAlike s s' (onOkOf i rx (storeRx rx (sendTx tx s)))
      (onOkOf i rx (storeRx rx (sendTx tx (withUnread s s')))) := by
  have hsplit : storeRx rx (sendTx tx (withUnread s s')) =
    withUnread (storeRx rx (sendTx tx s)) (storeRx rx (sendTx tx (withUnread s s'))) := rfl
  obtain ⟨⟨hbusy, hdone, hresult, hstep⟩, hsacc⟩ := status_onOkOf_withUnread hi rx
    (storeRx rx (sendTx tx s)) (storeRx rx (sendTx tx (withUnread s s')))
  have hout := resultsAlike_onOkOf i rx
    (storeRx rx (sendTx tx s)) (storeRx rx (sendTx tx (withUnread s s')))
  rw [← hsplit] at hbusy hdone hresult hstep hsacc hout
  refine ⟨hbusy.symm, hdone.symm, hresult.symm, hstep.symm, hsacc.symm, ?_, ?_, ?_, .inl ?_, hout⟩
  · simp [onOkOf_inFlight]
  all_goals simp [onOkOf_last]

theorem runsAlike_exchange {i : Instr} (hi : isHostOp i = true) (tx : List Byte) (s s' : State) :
    RunsAlike s s' (exchange tx (onOkOf i) (onErrOf i) s)
      (exchange tx (onOkOf i) (onErrOf i) (withUnread s s')) := by
  have hnext : nextAnswer (withUnread s s') = nextAnswer s := rfl
  cases h : nextAnswer s with
  | ok g =>
    rw [exchange_ok h, exchange_ok (hnext.trans h)]
    exact runsAlike_ok hi (receive s tx.length g) tx s s'
  | err =>
    rw [exchange_err h, exchange_err (hnext.trans h), onErrOf, if_pos hi]
    exact ⟨rfl, rfl, rfl, rfl, rfl, rfl, rfl, rfl, .inl rfl, resultsAlike_kept _ _⟩
  | noAnswer =>
    rw [exchange_noAnswer h, exchange_noAnswer (hnext.trans h)]
    exact ⟨rfl, rfl, rfl, rfl, rfl, rfl, rfl, rfl, .inr ⟨rfl, rfl⟩, resultsAlike_kept _ _⟩

theorem eq_withUnread {s₁ s₂ : State} (hcfg : s₁.cfg = s₂.cfg) (hcur : s₁.cur = s₂.cur)
    (hstep : s₁.stepIdx = s₂.stepIdx) (hsacc : s₁.sacc = s₂.sacc) (hbusy : s₁.busy = s₂.busy)
    (hdone : s₁.done = s₂.done) (hresult : s₁.result = s₂.result)
    (hanswers : s₁.answers = s₂.answers) (hdraws : s₁.draws = s₂.draws) :
    s₂ = withUnread s₁ s₂ := by
  cases s₂
  simp_all [withUnread]

/-- Settles O53: the second state is the first with its unread registers replaced. -/
theorem noOperationReadsOldResults : Obligations.NoOperationReadsOldResults := by
  intro i s₁ s₂ hi hcfg hcur hstep hsacc hbusy hdone hresult hanswers hdraws
  have hs₂ : s₂ = withUnread s₁ s₂ :=
    eq_withUnread hcfg hcur hstep hsacc hbusy hdone hresult hanswers hdraws
  refine ⟨_, _, exec_eq_exchange i s₁, exec_eq_exchange i s₂, ?_⟩
  rw [hs₂, txOf_withUnread]
  exact runsAlike_exchange hi (txOf i s₁) s₁ s₂

end Sys2Proof.Machine

/-! ## Proofs of the memory family (20_memory.md)

`rawAngle` is an append of three fields, so each field is read back from it at its own offset; the
low field and the status field are adjacent in b2. -/

namespace Sys2Proof.Machine

@[simp] theorem rawAngle_extractLsb'_high (x : Sample) :
    (rawAngle x).extractLsb' 13 8 = x.angleHigh :=
  (BitVec.extractLsb'_append_eq_of_le (by decide)).trans BitVec.extractLsb'_append_eq_left

@[simp] theorem rawAngle_extractLsb'_mid (x : Sample) :
    (rawAngle x).extractLsb' 5 8 = x.angleMid :=
  (BitVec.extractLsb'_append_eq_of_le (by decide)).trans BitVec.extractLsb'_append_eq_right

@[simp] theorem rawAngle_extractLsb'_low (x : Sample) :
    (rawAngle x).extractLsb' 0 5 = x.angleLowStatus.extractLsb' 3 5 :=
  BitVec.extractLsb'_append_eq_right

@[simp] theorem angleLow_append_statusField (x : Sample) :
    x.angleLowStatus.extractLsb' 3 5 ++ statusField x = x.angleLowStatus :=
  calc x.angleLowStatus.extractLsb' 3 5 ++ statusField x
    _ = x.angleLowStatus.extractLsb' 0 (5 + 3) :=
      BitVec.extractLsb'_append_extractLsb'_eq_extractLsb' rfl
    _ = x.angleLowStatus := BitVec.extractLsb'_eq_self

/-- Settles O14: each field of the raw angle is read back at its own offset. -/
theorem angleRegisterLayout : Obligations.AngleRegisterLayout := by
  intro x
  refine ⟨(rawAngle_extractLsb'_high x).symm, (rawAngle_extractLsb'_mid x).symm, ?_⟩
  rw [rawAngle_extractLsb'_low, angleLow_append_statusField]

end Sys2Proof.Machine

/-! ## Proofs of the encoding family (30_encoding.md)

A wire transaction is a frame and a data phase. `decodeFrame_eq_some_iff` says what a frame decodes to,
one `_iff` per data phase says what it decodes to, and both directions of the round trip are read off
these. A program line is a run of host writes that fit, then START. -/

namespace Sys2Proof.Machine

/-! ### Frames -/

theorem opcodeOf_eq_some_iff (opc : BitVec 4) (op : Opcode) :
    opcodeOf opc = some op ↔ op.code = opc := by
  constructor
  · intro h
    unfold opcodeOf at h
    split_ifs at h with h3 h6 hC h5 hA <;> cases h <;> exact Eq.symm ‹_›
  · rintro rfl
    cases op <;> rfl

/-- A command word is a packed one exactly where its two fields are the operands. -/
theorem pack_eq_iff (op : Opcode) (a : Addr) (w : CmdWord) :
    pack op a = w ↔ op.code = w.extractLsb' 12 4 ∧ a = w.extractLsb' 0 12 := by
  constructor
  · rintro rfl
    exact ⟨BitVec.extractLsb'_append_eq_left.symm, BitVec.extractLsb'_append_eq_right.symm⟩
  · rintro ⟨hop, ha⟩
    rw [pack, hop, ha]
    exact BitVec.extractLsb'_append_extractLsb' (w := 4) (len := 12)

/-- A frame is two bytes that join to the command word (40_command_frame.md R101). -/
theorem frame_eq_iff (op : Opcode) (a : Addr) (b0 b1 : Byte) :
    frame op a = [b0, b1] ↔ pack op a = b0 ++ b1 := by
  constructor
  · intro h
    obtain ⟨h0, h1⟩ : (pack op a).extractLsb' 8 8 = b0 ∧ (pack op a).extractLsb' 0 8 = b1 := by
      simpa [frame] using h
    rw [← h0, ← h1]
    exact (BitVec.extractLsb'_append_extractLsb' (w := 8) (len := 8)).symm
  · intro h
    rw [frame, h, BitVec.extractLsb'_append_eq_left, BitVec.extractLsb'_append_eq_right]

/-- Two bytes decode to an opcode and an address exactly where they are their frame. -/
theorem decodeFrame_eq_some_iff (b0 b1 : Byte) (op : Opcode) (a : Addr) :
    decodeFrame b0 b1 = some (op, a) ↔ frame op a = [b0, b1] := by
  rw [frame_eq_iff, pack_eq_iff, ← opcodeOf_eq_some_iff, decodeFrame]
  cases opcodeOf ((b0 ++ b1 : CmdWord).extractLsb' 12 4) <;> simp [eq_comm]

/-! ### Data phases -/

/-- The decoder of the data phase that follows the frame of `op` and `a`. -/
def decodeData (op : Opcode) (a : Addr) (d : List Byte) : Decoded :=
  match op with
  | .read => decodePlaceholder .read (.read a) d
  | .write => decodeWriteData a d
  | .writeEEPROM => decodePlaceholder .writeEEPROM (.writeEEPROM a) d
  | .setZeroPoint => decodePlaceholder .setZeroPoint (.setZeroPoint a) d
  | .continuousRead => decodeBurstData a d

theorem decodeTx_of_decodeFrame {b0 b1 : Byte} {op : Opcode} {a : Addr}
    (h : decodeFrame b0 b1 = some (op, a)) (d : List Byte) :
    decodeTx (b0 :: b1 :: d) = decodeData op a d := by
  cases op <;> simp only [decodeTx, h] <;> rfl

/-- A frame and a data phase decode as the data phase does. -/
theorem decodeTx_frame (op : Opcode) (a : Addr) (d : List Byte) :
    decodeTx (frame op a ++ d) = decodeData op a d :=
  decodeTx_of_decodeFrame ((decodeFrame_eq_some_iff _ _ op a).mpr rfl) d

/-- Only a frame and a data phase decode to an instruction. -/
theorem decodeTx_eq_instr {bytes : List Byte} {i : Instr} (h : decodeTx bytes = .instr i) :
    ∃ op a d, bytes = frame op a ++ d ∧ decodeData op a d = .instr i := by
  match bytes with
  | [] | [_] => cases h
  | b0 :: b1 :: d =>
    cases hf : decodeFrame b0 b1 with
    | none => simp [decodeTx, hf] at h
    | some p =>
      obtain ⟨op, a⟩ := p
      refine ⟨op, a, d, ?_, (decodeTx_of_decodeFrame hf d).symm.trans h⟩
      rw [(decodeFrame_eq_some_iff b0 b1 op a).mp hf]
      rfl

theorem decodePlaceholder_eq_instr_iff (op : Opcode) (i j : Instr) (d : List Byte) :
    decodePlaceholder op i d = .instr j ↔ d = [padByte] ∧ j = i := by
  match d with
  | [] | _ :: _ :: _ => simp [decodePlaceholder]
  | [p] => by_cases hp : p = padByte <;> simp [decodePlaceholder, hp, eq_comm]

theorem decodeWriteData_eq_instr_iff (a : Addr) (d : List Byte) (j : Instr) :
    decodeWriteData a d = .instr j ↔ ∃ w : WriteData, d = w.bytes ∧ j = .write a w := by
  constructor
  · intro h
    match d with
    | [] | _ :: _ :: _ :: _ => cases h
    | [v] => exact ⟨.one v, rfl, (Decoded.instr.inj h).symm⟩
    | [v0, v1] => exact ⟨.two v0 v1, rfl, (Decoded.instr.inj h).symm⟩
  · rintro ⟨w, rfl, rfl⟩
    cases w <;> rfl

/-- The data phase of a ContinuousRead is N − 2 pad bytes, for a total length N of at least 3. -/
theorem decodeBurstData_eq_instr_iff (a : Addr) (d : List Byte) (j : Instr) :
    decodeBurstData a d = .instr j ↔
      ∃ n : Byte, 3 ≤ n.toNat ∧ d = List.replicate (n.toNat - 2) padByte ∧
        j = .continuousRead a n := by
  constructor
  · intro h
    unfold decodeBurstData at h
    split_ifs at h with hlen hpad
    have hn : (BitVec.ofNat 8 (d.length + 2)).toNat = d.length + 2 :=
      Nat.mod_eq_of_lt (by omega)
    refine ⟨BitVec.ofNat 8 (d.length + 2), by omega, ?_, (Decoded.instr.inj h).symm⟩
    rw [hn, Nat.add_sub_cancel, List.eq_replicate_iff]
    simpa using hpad
  · rintro ⟨n, hn, rfl, rfl⟩
    have hback : BitVec.ofNat 8 (n.toNat - 2 + 2) = n := by
      rw [Nat.sub_add_cancel (by omega), BitVec.ofNat_toNat, BitVec.setWidth_eq]
    rw [decodeBurstData, List.length_replicate, if_neg (by omega), if_pos (by simp), hback]

/-! ### The round trip -/

/-- Settles O5: a wire command is a frame with the data phase its `_iff` lemma names, a host operation
its REQ_OP code. -/
theorem decodeEncode : Obligations.DecodeEncode := by
  intro c i hi
  cases i with
  | read a | writeEEPROM a | setZeroPoint a =>
    exact (decodeTx_frame _ a _).trans rfl
  | write a d =>
    exact (decodeTx_frame _ _ _).trans ((decodeWriteData_eq_instr_iff _ _ _).mpr ⟨d, rfl, rfl⟩)
  | continuousRead a n =>
    obtain ⟨h3, -⟩ := (burstLengthOk_iff c n).mp hi
    exact (decodeTx_frame _ _ _).trans
      ((decodeBurstData_eq_instr_iff _ _ _).mpr ⟨n, h3, rfl, rfl⟩)
  | regRead | regWrite | burstRead | eepromWrite | setZero | angleReadBurst | angleReadBytewise
  | abzResWrite => rfl

/-- A frame and a data phase are what the encoder writes for the instruction they decode to. -/
theorem encode_of_decodeData {op : Opcode} {a : Addr} {d : List Byte} {i : Instr}
    (h : decodeData op a d = .instr i) : encode i = .tx (frame op a ++ d) := by
  cases op with
  | read | writeEEPROM | setZeroPoint =>
    obtain ⟨rfl, rfl⟩ := (decodePlaceholder_eq_instr_iff _ _ _ _).mp h
    rfl
  | write =>
    obtain ⟨w, rfl, rfl⟩ := (decodeWriteData_eq_instr_iff _ _ _).mp h
    rfl
  | continuousRead =>
    obtain ⟨n, -, rfl, rfl⟩ := (decodeBurstData_eq_instr_iff _ _ _).mp h
    rfl

/-- Settles O6: a REQ_OP code by `decodeReqOp_instr`, a transaction by its frame and data phase. -/
theorem encodeDecode : Obligations.EncodeDecode := by
  intro code i h
  cases code with
  | reqOp op => exact (decodeReqOp_instr h).2
  | tx bytes =>
    obtain ⟨op, a, d, rfl, hd⟩ := decodeTx_eq_instr h
    exact encode_of_decodeData hd

/-- Settles O7, by evaluation. -/
theorem sampleWordsDecode : Obligations.SampleWordsDecode := by
  unfold Obligations.SampleWordsDecode
  decide

/-! ### REQ_OP codes -/

/-- The eight REQ_OP codes of 30_encoding.md R82, as numbers. -/
theorem reqOp_defined_iff (op : BitVec 4) :
    (1 ≤ op.toNat ∧ op.toNat ≤ 8) ↔
      (op = 0x1 ∨ op = 0x2 ∨ op = 0x3 ∨ op = 0x4 ∨ op = 0x5 ∨ op = 0x6 ∨ op = 0x7 ∨ op = 0x8) := by
  bv_omega

/-- A defined REQ_OP code decodes to a host operation. -/
theorem decodeReqOp_of_defined {op : BitVec 4} (h : 1 ≤ op.toNat ∧ op.toNat ≤ 8) :
    ∃ i, decodeReqOp op = .instr i ∧ isHostOp i = true := by
  rcases (reqOp_defined_iff op).mp h with rfl | rfl | rfl | rfl | rfl | rfl | rfl | rfl <;>
    exact ⟨_, rfl, rfl⟩

/-- Every other one is reserved. -/
theorem decodeReqOp_of_reserved {op : BitVec 4} (h : ¬ (1 ≤ op.toNat ∧ op.toNat ≤ 8)) :
    decodeReqOp op = .rejected (.reservedOperation op) := by
  rw [reqOp_defined_iff] at h
  simp only [not_or] at h
  simp only [decodeReqOp, h, if_false]

/-- Settles O8: a code is defined or reserved. -/
theorem reservedOperationCodes : Obligations.ReservedOperationCodes := by
  intro op
  have hreserved : (op = 0 ∨ 9 ≤ op.toNat) ↔ ¬ (1 ≤ op.toNat ∧ op.toNat ≤ 8) := by
    bv_omega
  rw [hreserved]
  refine ⟨fun h hdef => ?_, decodeReqOp_of_reserved⟩
  obtain ⟨i, hi, -⟩ := decodeReqOp_of_defined hdef
  cases h.symm.trans hi

/-- Which requests are legal (30_encoding.md R84). -/
theorem legal_iff (c : Config) (r : Request) :
    legal c r = true ↔
      (1 ≤ r.op.toNat ∧ r.op.toNat ≤ 8) ∧ (r.op ≠ 0x3 ∨ burstLengthOk c r.tlen = true) := by
  simp [legal]

/-- Settles O9: `legal` checks that REQ_OP is defined, and a BURST_READ's length. -/
theorem legalRequests : Obligations.LegalRequests := by
  intro c r
  refine ⟨?_, fun h => decodeReqOp_of_defined ((legal_iff c r).mp h).1⟩
  rw [legal_iff, reqOp_defined_iff, burstLengthOk_iff]

/-! ### The ABZ word -/

theorem abzWord_extractLsb'_res (res : Resolution) (sw off : Bool) :
    (abzWord res sw off).extractLsb' 2 14 = res :=
  (BitVec.extractLsb'_append_eq_of_le (by decide)).trans BitVec.extractLsb'_append_eq_left

theorem abzWord_getLsbD_one (res : Resolution) (sw off : Bool) :
    (abzWord res sw off).getLsbD 1 = off := by
  rw [abzWord, BitVec.getLsbD_append, BitVec.getLsbD_append]
  cases off <;> rfl

theorem abzWord_getLsbD_zero (res : Resolution) (sw off : Bool) :
    (abzWord res sw off).getLsbD 0 = sw := by
  rw [abzWord, BitVec.getLsbD_append]
  cases sw <;> rfl

/-- Settles O11: the word is an append of its three fields, so each is read back from it. -/
theorem abzWordFields : Obligations.AbzWordFields := by
  refine ⟨fun res sw off => ⟨?_, abzWord_extractLsb'_res res sw off,
    abzWord_getLsbD_one res sw off, abzWord_getLsbD_zero res sw off⟩,
    fun r₁ r₂ s₁ s₂ o₁ o₂ h => ⟨?_, ?_, ?_⟩⟩
  · exact (BitVec.setWidth_eq _).symm.trans
      BitVec.setWidth_append_append_eq_shiftLeft_setWidth_or
  · rw [← abzWord_extractLsb'_res r₁ s₁ o₁, h, abzWord_extractLsb'_res]
  · rw [← abzWord_getLsbD_zero r₁ s₁ o₁, h, abzWord_getLsbD_zero]
  · rw [← abzWord_getLsbD_one r₁ s₁ o₁, h, abzWord_getLsbD_one]

/-! ### What is sent -/

/-- Every exchange starts with a frame of the instruction's wire opcode (30_encoding.md R85). -/
theorem txOf_eq_frame_append (i : Instr) (s : State) :
    ∃ a d, txOf i s = frame (wireOpcode i) a ++ d := by
  cases i <;> exact ⟨_, _, rfl⟩

/-- LAST_TX shows the exchange, whatever its answer. -/
theorem exchange_lastTx (i : Instr) (tx : List Byte) (s : State) :
    (exchange tx (onOkOf i) (onErrOf i) s).last.tx = fillArray s.cfg.burstMaxTotal tx := by
  rcases exchange_cases tx (onOkOf i) (onErrOf i) s with ⟨g, -, ht⟩ | ⟨-, ht⟩ | ⟨-, ht⟩ <;> rw [ht]
  · simp [onOkOf_last]
  · simp [onErrOf_last]
  · rfl

/-- Settles O55: LAST_TX holds a frame, and a frame decodes to its own opcode. -/
theorem onlyDefinedOpcodesAreSent : Obligations.OnlyDefinedOpcodesAreSent := by
  intro i s t hc h
  obtain ⟨hmin, -⟩ := burstMaxTotal_bounds hc
  obtain ⟨a, d, htx⟩ := txOf_eq_frame_append i s
  rw [exec_eq_exchange] at h
  cases h
  refine ⟨a, ?_⟩
  rw [exchange_lastTx, byteAt_fillArray _ _ _ (by omega), byteAt_fillArray _ _ _ (by omega), htx]
  exact (decodeFrame_eq_some_iff _ _ _ _).mpr rfl

/-! ### Program lines -/

/-- `k` steps lead from `s` to `t`. -/
def RunsTo (k : Nat) (s t : State) : Prop := Sys2Proof.core.run k s = .next t

theorem runsTo_of_step {s t u : State} {k : Nat} (h : step s = .next t) (ht : RunsTo k t u) :
    RunsTo (k + 1) s u := by
  have hs : Sys2Proof.core.step s = .next t := h
  simp only [RunsTo, Host.Core.run, hs]
  exact ht

/-- `s` once the host's write of `v` to the RW register `r` has left the queue. -/
def written (r : HostReg) (v : Nat) (rest : List HostAction) (s : State) : State :=
  { s with req := writeReq r v s.req, hostQueue := rest }

/-- A host write that fits is one step, and sets its field of REQ_*. -/
theorem runsTo_write {s t : State} {r : HostReg} {w v k : Nat} {f : OperandField}
    {rest : List HostAction} (hr : s.raised = none) (hq : s.hostQueue = .write r v :: rest)
    (hrw : rwField r = some (w, f)) (hv : v < 2 ^ w) (ht : RunsTo k (written r v rest s) t) :
    RunsTo (k + 1) s t := by
  refine runsTo_of_step ((step_write hr hq).trans ?_) ht
  rw [hostWrite_rw hrw, writeField, if_pos hv, written]

theorem startOp_of_legal {s : State} (hb : s.busy = false) (hl : legal s.cfg s.req = true) :
    startOp s = { latch s with busy := true } := by
  simp [startOp, hb, hl]

theorem startOp_of_illegal {s : State} (hb : s.busy = false) (hl : legal s.cfg s.req = false) :
    startOp s = { latch s with result := .illegalOp, done := true } := by
  simp [startOp, hb, hl]

theorem step_start {s : State} {rest : List HostAction} (hr : s.raised = none)
    (hq : s.hostQueue = .start :: rest) :
    step s = .next (startOp { s with hostQueue := rest }) :=
  step_of_host (nextMove_host hr hq)

/-- The end of a program line writes REQ_OP, and START does the rest. -/
theorem runsTo_lineEnd {s t : State} {op : Nat} {rest : List HostAction} (hr : s.raised = none)
    (hq : s.hostQueue = lineEnd op ++ rest) (hop : op < 16)
    (ht : startOp (written .reqOp op (.waitDone :: rest) s) = t) : RunsTo 2 s t :=
  have hstart : RunsTo 1 (written .reqOp op (.start :: .waitDone :: rest) s) t :=
    runsTo_of_step (step_start hr rfl) (congrArg _ ht)
  runsTo_write hr hq rfl hop hstart

/-- A legal request is started (10_state.md R29). -/
theorem runsTo_startedWith {s : State} {op : Nat} {rest : List HostAction} (hr : s.raised = none)
    (hb : s.busy = false) (hq : s.hostQueue = lineEnd op ++ rest) (hop : op < 16)
    (hl : legal s.cfg (writeReq .reqOp op s.req) = true) :
    RunsTo 2 s (startedWith (writeReq .reqOp op s.req) rest s) :=
  runsTo_lineEnd hr hq hop (startOp_of_legal hb hl)

/-- Any other is refused (60_exceptions.md R203). -/
theorem runsTo_refusedWith {s : State} {op : Nat} {rest : List HostAction} (hr : s.raised = none)
    (hb : s.busy = false) (hq : s.hostQueue = lineEnd op ++ rest) (hop : op < 16)
    (hl : legal s.cfg (writeReq .reqOp op s.req) = false) :
    RunsTo 2 s (refusedWith (writeReq .reqOp op s.req) rest s) := by
  refine runsTo_lineEnd hr hq hop ?_
  rw [startOp_of_illegal (s := written .reqOp op (.waitDone :: rest) s) hb hl, refusedWith, ← hb]
  rfl

/-- A request for a defined operation but BURST_READ is legal (30_encoding.md R84). -/
theorem neverIllegal {op : BitVec 4} (hdef : 1 ≤ op.toNat ∧ op.toNat ≤ 8) (h3 : op ≠ 0x3) :
    NeverIllegal op := by
  rintro c r rfl
  exact (legal_iff c r).mpr ⟨hdef, .inl h3⟩

/-- The end of the line of such an operation starts it. -/
theorem runsTo_lineEnd_of_neverIllegal {s : State} {op : Nat} {rest : List HostAction}
    (hr : s.raised = none) (hb : s.busy = false) (hop : 1 ≤ op ∧ op ≤ 8 ∧ op ≠ 3)
    (hq : s.hostQueue = lineEnd op ++ rest) :
    RunsTo 2 s (startedWith (writeReq .reqOp op s.req) rest s) := by
  have hl : NeverIllegal (BitVec.ofNat 4 op) := by
    apply neverIllegal <;> bv_omega
  exact runsTo_startedWith hr hb hq (by omega) (hl _ _ rfl)

/-- A line of such an operation with an address alone starts it at that address. -/
theorem runsTo_addrLine {s : State} {op a : Nat} {rest : List HostAction}
    (hr : s.raised = none) (hb : s.busy = false) (hop : 1 ≤ op ∧ op ≤ 8 ∧ op ≠ 3)
    (ha : a < 0x1000) (hq : s.hostQueue = .write .reqAddr a :: (lineEnd op ++ rest)) :
    RunsTo 3 s
      (startedWith { s.req with op := BitVec.ofNat 4 op, addr := BitVec.ofNat 12 a } rest s) :=
  have hend : RunsTo 2 (written .reqAddr a (lineEnd op ++ rest) s) _ :=
    runsTo_lineEnd_of_neverIllegal hr hb hop rfl
  runsTo_write hr hq rfl ha hend

/-- A BURST_READ line starts for a length in range and is refused for any other
(30_encoding.md R84). -/
theorem runsTo_burstLine {s : State} {a n : Nat} {rest : List HostAction}
    (hr : s.raised = none) (hb : s.busy = false) (ha : a < 0x1000) (hn : n < 0x100)
    (hq : s.hostQueue = lineActions (.burstRead a n) ++ rest) :
    RunsTo 4 s
      (if 3 ≤ n ∧ n ≤ s.cfg.burstMaxTotal then
        startedWith
          { s.req with op := 0x3, addr := BitVec.ofNat 12 a, tlen := BitVec.ofNat 8 n } rest s
      else
        refusedWith
          { s.req with op := 0x3, addr := BitVec.ofNat 12 a, tlen := BitVec.ofNat 8 n } rest s) := by
  have hlen : (BitVec.ofNat 8 n).toNat = n := Nat.mod_eq_of_lt hn
  have hlegal : legal s.cfg
      { s.req with op := 0x3, addr := BitVec.ofNat 12 a, tlen := BitVec.ofNat 8 n } = true ↔
        3 ≤ n ∧ n ≤ s.cfg.burstMaxTotal := by
    simp [legal_iff, burstLengthOk_iff, hlen]
  refine runsTo_write hr hq rfl ha (runsTo_write hr rfl rfl hn ?_)
  split_ifs with hok
  · exact runsTo_startedWith hr hb rfl (by decide) (hlegal.mpr hok)
  · exact runsTo_refusedWith hr hb rfl (by decide) (Bool.eq_false_iff.mpr fun h => hok (hlegal.mp h))

/-- Settles O26: each write of a line is one step, and START the last. -/
theorem programLines : Obligations.ProgramLines := by
  refine ⟨fun s rest hr hb => ⟨?_, ?_, ?_, ?_, ?_, ?_, ?_, ?_⟩, rfl, rfl, rfl, rfl, rfl⟩
  · exact fun a ha => runsTo_addrLine hr hb (by decide) ha
  · intro a v ha hv hq
    refine runsTo_write hr hq rfl ha (runsTo_write hr rfl rfl hv ?_)
    exact runsTo_lineEnd_of_neverIllegal hr hb (by decide) rfl
  · exact fun a n ha hn => runsTo_burstLine hr hb ha hn
  · exact fun a ha => runsTo_addrLine hr hb (by decide) ha
  · exact fun a ha => runsTo_addrLine hr hb (by decide) ha
  · exact runsTo_lineEnd_of_neverIllegal hr hb (by decide)
  · exact runsTo_lineEnd_of_neverIllegal hr hb (by decide)
  · intro r sw off hres hsw hoff hq
    refine runsTo_write hr hq rfl hres (runsTo_write hr rfl rfl hsw
      (runsTo_write hr rfl rfl hoff ?_))
    exact runsTo_lineEnd_of_neverIllegal hr hb (by decide) rfl

end Sys2Proof.Machine

/-! ## Proofs of the command-frame family (40_command_frame.md)

A command word is an append of nibbles and bytes: re-associated it is a frame (`frame_eq_append`),
and two bytes re-associated are an opcode and an address (`bytes_eq_opcode_append`).
`exchange_showsTx` and `answered_of_ok` say once what any exchange shows in LAST_*; each wire command
is `bareCompletes` at its own bytes. -/

namespace Sys2Proof.Machine

/-! ### The packer -/

/-- Settles O1: the fields by `pack_eq_iff`, and an append is the shifted high part ORed with the
low part. -/
theorem packPlacesOpcodeAndAddress : Obligations.PackPlacesOpcodeAndAddress := by
  intro op a
  obtain ⟨hop, ha⟩ := (pack_eq_iff op a (pack op a)).mp rfl
  exact ⟨hop.symm, ha.symm,
    (BitVec.setWidth_eq _).symm.trans BitVec.setWidth_append_eq_shiftLeft_setWidth_or⟩

/-- For a defined opcode only the address is checked (40_command_frame.md R102). -/
theorem packChecked_code (op : Opcode) (a : Nat) :
    packChecked op.code.toNat a =
      if a < 0x1000 then .ok (pack op (BitVec.ofNat 12 a))
      else .error (.operandOutOfRange .addr a) := by
  have hfits : ¬ 16 ≤ op.code.toNat := by omega
  have hdef : opcodeOf (BitVec.ofNat 4 op.code.toNat) = some op := by
    rw [BitVec.ofNat_toNat, BitVec.setWidth_eq, opcodeOf_eq_some_iff]
  rw [packChecked, if_neg hfits, hdef]

/-- A number that is no opcode is refused, whether or not it fits the opcode field. -/
theorem packChecked_undefined {op : Nat} (h : ∀ o : Opcode, o.code.toNat ≠ op) (a : Nat) :
    packChecked op a = .error (.operandOutOfRange .opcode op) := by
  by_cases hfits : 16 ≤ op
  · exact if_pos hfits
  · have hundef : opcodeOf (BitVec.ofNat 4 op) = none := by
      rw [Option.eq_none_iff_forall_ne_some]
      intro o ho
      refine h o ?_
      rw [(opcodeOf_eq_some_iff _ _).mp ho]
      exact Nat.mod_eq_of_lt (by omega)
    rw [packChecked, if_neg hfits, hundef]

/-- Settles O10: the opcode is looked at first, then the address. -/
theorem packerRefusesWideOperands : Obligations.PackerRefusesWideOperands :=
  ⟨fun op a ha => (packChecked_code op a).trans (if_pos ha),
    fun op a ha => (packChecked_code op a).trans (if_neg ha.not_gt),
    fun _ a h => packChecked_undefined h a⟩

/-! ### The serialiser -/

/-- A frame's bytes: the opcode with `a[11:8]`, then `a[7:0]` (40_command_frame.md R101). -/
theorem frame_eq_append (op : Opcode) (a : Addr) :
    frame op a = [op.code ++ a.extractLsb' 8 4, addrLow a] := by
  have ha : a.extractLsb' 8 4 ++ addrLow a = a :=
    BitVec.extractLsb'_append_extractLsb' (w := 4) (len := 8)
  rw [frame_eq_iff, BitVec.append_assoc, ha]
  rfl

/-- Settles O2: the bytes by `frame_eq_append`, their join by `frame_eq_iff`. -/
theorem frameIsTwoBytesHighFirst : Obligations.FrameIsTwoBytesHighFirst := fun op a =>
  ⟨frame_eq_append op a, ((frame_eq_iff op a _ _).mp rfl).symm⟩

/-- A frame's bytes with the opcode shifted into place (30_encoding.md R85). -/
theorem frame_eq_or (op : Opcode) (a : Addr) :
    frame op a = [(op.code.zeroExtend 8 <<< 4) ||| addrHigh a, addrLow a] := by
  have hhigh : op.code ++ a.extractLsb' 8 4 = (op.code.zeroExtend 8 <<< 4) ||| addrHigh a :=
    (BitVec.setWidth_eq _).symm.trans BitVec.setWidth_append_eq_shiftLeft_setWidth_or
  rw [frame_eq_append, hhigh]

/-! ### The frame decoder -/

/-- Two bytes are an opcode nibble and twelve address bits. -/
theorem bytes_eq_opcode_append (b0 b1 : Byte) :
    (b0 ++ b1 : CmdWord) = b0.extractLsb' 4 4 ++ (b0.extractLsb' 0 4 ++ b1) := by
  have hb0 : b0.extractLsb' 4 4 ++ b0.extractLsb' 0 4 = b0 :=
    BitVec.extractLsb'_append_extractLsb' (w := 4) (len := 4)
  exact (congrArg (· ++ b1) hb0.symm).trans BitVec.append_assoc

/-- The decoder names the opcode by the high nibble; the other twelve bits are the address. -/
theorem decodeFrame_eq_map (b0 b1 : Byte) :
    decodeFrame b0 b1 =
      (opcodeOf (b0.extractLsb' 4 4)).map fun op => (op, b0.extractLsb' 0 4 ++ b1) := by
  have hop : (b0 ++ b1 : CmdWord).extractLsb' 12 4 = b0.extractLsb' 4 4 := by
    rw [bytes_eq_opcode_append]
    exact BitVec.extractLsb'_append_eq_left
  have haddr : (b0 ++ b1 : CmdWord).extractLsb' 0 12 = b0.extractLsb' 0 4 ++ b1 := by
    rw [bytes_eq_opcode_append]
    exact BitVec.extractLsb'_append_eq_right
  rw [decodeFrame, hop, haddr]
  cases opcodeOf (b0.extractLsb' 4 4) <;> rfl

/-- Settles O3: one case per test of `opcodeOf` on the high nibble. -/
theorem frameDecoderIsTotal : Obligations.FrameDecoderIsTotal := by
  intro b0 b1
  rw [decodeFrame_eq_map, opcodeOf]
  split_ifs <;> rfl

/-- Settles O4: the round trip is `decodeFrame_eq_some_iff`, and a byte pair decodes exactly where
its high nibble is an opcode. -/
theorem frameRoundTrip : Obligations.FrameRoundTrip := by
  refine ⟨fun op a b0 b1 => decodeFrame_eq_some_iff b0 b1 op a, fun b0 b1 => ?_⟩
  simp [← decodeFrame_eq_some_iff, ← opcodeOf_eq_some_iff, decodeFrame_eq_map]

/-! ### What LAST_* show of an exchange -/

/-- An entry of a filled array. -/
theorem byteAt_fillArray_eq_ite (xs : List Byte) {n i : Nat} (hi : i < n) :
    byteAt (fillArray n xs) i = if i < xs.length then byteAt xs i else 0 := by
  rw [byteAt_fillArray n xs i hi]
  split_ifs with hx
  · rfl
  · exact byteAt_eq_zero_of_le xs i (Nat.le_of_not_lt hx)

/-- LAST_LEN is the exchange's length, whatever its answer. -/
theorem exchange_lastLen (i : Instr) (tx : List Byte) (s : State) :
    (exchange tx (onOkOf i) (onErrOf i) s).last.len = BitVec.ofNat 8 tx.length := by
  rcases exchange_cases tx (onOkOf i) (onErrOf i) s with ⟨g, -, ht⟩ | ⟨-, ht⟩ | ⟨-, ht⟩ <;> rw [ht]
  · simp [onOkOf_last]
  · simp [onErrOf_last]
  · rfl

/-- Every exchange whose length fits LAST_LEN is shown in LAST_LEN and LAST_TX. -/
theorem exchange_showsTx (i : Instr) {tx : List Byte} (s : State) (hlen : tx.length < 256) :
    ShowsTx s (exchange tx (onOkOf i) (onErrOf i) s) tx := by
  rw [ShowsTx, exchange_lastLen, exchange_lastTx]
  exact ⟨Nat.mod_eq_of_lt hlen, fillArray_length _ _, fun _ hi => byteAt_fillArray_eq_ite tx hi⟩

/-- An answer `Ok` is shown in LAST_RX. -/
theorem exchange_showsRx (i : Instr) (tx : List Byte) {s : State} {g : List Byte}
    (h : nextAnswer s = .ok g) :
    ShowsRx s (exchange tx (onOkOf i) (onErrOf i) s) (receive s tx.length g) := by
  have hrx : (exchange tx (onOkOf i) (onErrOf i) s).last.rx =
      fillArray s.cfg.burstMaxTotal (receive s tx.length g) := by
    rw [exchange_ok h]
    simp [onOkOf_last]
  rw [ShowsRx, hrx]
  exact ⟨fillArray_length _ _, fun _ hi => byteAt_fillArray_eq_ite _ hi⟩

/-- What LAST_* show of an exchange answered `Ok`, and its frame. -/
theorem answered_of_ok (i : Instr) {tx : List Byte} {s : State} {g : List Byte}
    (hlen : tx.length < 256) (h : nextAnswer s = .ok g) :
    Answered s (exchange tx (onOkOf i) (onErrOf i) s) tx (receive s tx.length g) :=
  ⟨exchange_showsTx i s hlen, exchange_showsRx i tx h, exchange_keeps i tx s⟩

/-! ### The wire commands -/

theorem onErrOf_command {i : Instr} (hi : isHostOp i = false) (s : State) :
    onErrOf i s = dropCommand (transportError s) := by
  simp [onErrOf, hi]

/-- A wire command writes LAST_* and empties the latch, and ends what runs only on `Err`
(40_command_frame.md R106 to R110, 60_exceptions.md R202). -/
theorem bareCompletes {i : Instr} {s : State} {tx : List Byte} (hi : isHostOp i = false)
    (htx : txOf i s = tx) (hlen : tx.length < 256) : BareCompletes i s tx := by
  subst htx
  refine ⟨fun g hok => ⟨_, exec_eq_exchange i s, answered_of_ok i hlen hok, ?_⟩,
    fun herr => ⟨_, exec_eq_exchange i s, ?_⟩⟩
  · rw [exchange_ok hok, onOkOf_command hi]
    exact ⟨rfl, ⟨rfl, rfl, rfl, rfl⟩, rfl, rfl, rfl⟩
  · have hshown := exchange_showsTx i s hlen
    have hkept := exchange_keeps i (txOf i s) s
    rw [exchange_err herr, onErrOf_command hi] at hshown hkept ⊢
    exact ⟨⟨rfl, rfl, rfl, rfl, rfl⟩, rfl, rfl, rfl, hshown, hkept⟩

theorem placeholderBytes_eq_or (op : Opcode) (a : Addr) :
    placeholderBytes op a =
      [(op.code.zeroExtend 8 <<< 4) ||| addrHigh a, addrLow a, padByte] :=
  congrArg (· ++ [padByte]) (frame_eq_or op a)

theorem writeBytes_eq_or (a : Addr) (d : WriteData) :
    writeBytes a d = [0x60 ||| addrHigh a, addrLow a] ++ d.bytes :=
  congrArg (· ++ d.bytes) (frame_eq_or .write a)

theorem burstBytes_eq_or (a : Addr) (n : Byte) :
    burstBytes a n =
      [0xA0 ||| addrHigh a, addrLow a] ++ List.replicate (n.toNat - 2) padByte :=
  congrArg (· ++ List.replicate (n.toNat - 2) padByte) (frame_eq_or .continuousRead a)

/-- Settles O27: `bareCompletes` at the bytes of a Read. -/
theorem readCommand : Obligations.ReadCommand := fun a _ =>
  ⟨congrArg Code.tx (placeholderBytes_eq_or .read a),
    bareCompletes rfl (placeholderBytes_eq_or .read a) (by simp)⟩

/-- Settles O28: `bareCompletes` at the bytes of each form of a Write. -/
theorem writeCommand : Obligations.WriteCommand := fun a v v0 v1 _ =>
  ⟨congrArg Code.tx (writeBytes_eq_or a (.one v)),
    bareCompletes rfl (writeBytes_eq_or a (.one v)) (by simp),
    congrArg Code.tx (writeBytes_eq_or a (.two v0 v1)),
    bareCompletes rfl (writeBytes_eq_or a (.two v0 v1)) (by simp)⟩

/-- Settles O29: `bareCompletes` at the bytes of a WriteEEPROM. -/
theorem writeEepromCommand : Obligations.WriteEepromCommand := fun a _ =>
  ⟨congrArg Code.tx (placeholderBytes_eq_or .writeEEPROM a),
    bareCompletes rfl (placeholderBytes_eq_or .writeEEPROM a) (by simp)⟩

/-- Settles O30: `bareCompletes` at the bytes of a SetZeroPoint. -/
theorem setZeroPointCommand : Obligations.SetZeroPointCommand := fun a _ =>
  ⟨congrArg Code.tx (placeholderBytes_eq_or .setZeroPoint a),
    bareCompletes rfl (placeholderBytes_eq_or .setZeroPoint a) (by simp)⟩

/-- Settles O31: `bareCompletes` at the bytes of a ContinuousRead; a legal length N is at least 3,
so its frame and N − 2 pad bytes are N bytes. -/
theorem continuousReadCommand : Obligations.ContinuousReadCommand := by
  intro a n s hwf
  obtain ⟨h3, -⟩ := (burstLengthOk_iff s.cfg n).mp hwf
  have hlen : ([0xA0 ||| addrHigh a, addrLow a] ++
      List.replicate (n.toNat - 2) padByte).length = n.toNat := by
    rw [← burstBytes_eq_or, burstBytes_length]
    omega
  exact ⟨congrArg Code.tx (burstBytes_eq_or a n), hlen,
    bareCompletes rfl (burstBytes_eq_or a n) (hlen.trans_lt n.isLt)⟩

/-! ### The command-phase bytes -/

/-- The bytes received after the command phase do not depend on the two given in it. -/
theorem receive_drop_two (s : State) (n : Nat) (x0 x1 y0 y1 : Byte) (g : List Byte) :
    (receive s n (y0 :: y1 :: g)).drop 2 = (receive s n (x0 :: x1 :: g)).drop 2 := by
  refine List.ext_getElem (by simp) fun k _ _ => ?_
  simp [receive, Nat.add_comm 2 k]

theorem byteAt_drop_two (rx : List Byte) (k : Nat) : byteAt (rx.drop 2) k = byteAt rx (k + 2) := by
  simp [byteAt, Nat.add_comm 2 k]

/-- What follows `Ok` reads rx from its third byte on (40_command_frame.md R105). -/
theorem onOkOf_congr_drop_two {rx rx' : List Byte} (h : rx'.drop 2 = rx.drop 2) (i : Instr)
    (s : State) : onOkOf i rx' s = onOkOf i rx s := by
  have hbyte (k : Nat) : byteAt rx' (k + 2) = byteAt rx (k + 2) := by
    rw [← byteAt_drop_two, ← byteAt_drop_two, h]
  cases i with
  | read | write | writeEEPROM | setZeroPoint | continuousRead | abzResWrite => rfl
  | regRead => simp only [onOkOf, completeRead, hbyte 0]
  | regWrite | eepromWrite | setZero => simp only [onOkOf, completeAck, hbyte 0]
  | burstRead => simp only [onOkOf, completeBurst, h]
  | angleReadBurst =>
    simp only [onOkOf, completeAngleBurst, burstSample, hbyte 0, hbyte 1, hbyte 2, hbyte 3]
  | angleReadBytewise => simp only [onOkOf, completeAngleByte, hbyte 0]

/-- What follows `Ok` reads neither LAST_* nor the script. -/
theorem onOkOf_with_last_answers (i : Instr) (rx : List Byte) (s : State) (l : LastExchange)
    (as : List Answer) :
    onOkOf i rx { s with last := l, answers := as } =
      { onOkOf i rx s with last := l, answers := as } := by
  cases i with
  | angleReadBytewise => simp only [onOkOf, completeAngleByte]; split <;> rfl
  | _ => rfl

/-- Two answers that agree after the command phase leave the same state but for LAST_RX. -/
theorem onOkOf_storeRx_of_drop_two {rx rx' : List Byte} (h : rx'.drop 2 = rx.drop 2) (i : Instr)
    (s : State) {as : List Answer} (has : as.tail = s.answers.tail) :
    takeAnswer (onOkOf i rx' (storeRx rx' { s with answers := as })) =
      { takeAnswer (onOkOf i rx (storeRx rx s)) with
        last := { s.last with rx := fillArray s.cfg.burstMaxTotal rx' } } := by
  have hstored : storeRx rx' { s with answers := as } =
      { storeRx rx s with
        last := { s.last with rx := fillArray s.cfg.burstMaxTotal rx' }, answers := as } := rfl
  obtain ⟨-, -, -, -, -, hanswers, -⟩ := onOkOf_keeps i rx (storeRx rx s)
  rw [hstored, onOkOf_congr_drop_two h, onOkOf_with_last_answers]
  simp [takeAnswer, hanswers, has]

/-- A scripted `Ok` is the answer, and the operands do not depend on the script. -/
theorem exec_scripted_ok (i : Instr) (g : List Byte) (as : List Answer) (s : State) :
    exec i (scripted (.ok g :: as) s) =
      .next (takeAnswer (onOkOf i (receive s (txOf i s).length g)
        (storeRx (receive s (txOf i s).length g)
          (sendTx (txOf i s) (scripted (.ok g :: as) s))))) := by
  have htx : txOf i (scripted (.ok g :: as) s) = txOf i s := by cases i <;> rfl
  rw [exec_eq_exchange, htx, exchange_ok rfl]
  rfl

/-- Settles O52: the two answers agree after the command phase. -/
theorem commandPhaseDiscarded : Obligations.CommandPhaseDiscarded := by
  intro i s x0 x1 y0 y1 g as
  have hdrop := receive_drop_two s (txOf i s).length x0 x1 y0 y1 g
  refine ⟨_, fillArray s.cfg.burstMaxTotal (receive s (txOf i s).length (y0 :: y1 :: g)),
    exec_scripted_ok i (x0 :: x1 :: g) as s, ?_⟩
  rw [exec_scripted_ok, takeAnswer_last, onOkOf_last]
  exact congrArg Host.Outcome.next (onOkOf_storeRx_of_drop_two hdrop i
    (sendTx (txOf i s) (scripted (.ok (x0 :: x1 :: g) :: as) s)) rfl)

end Sys2Proof.Machine

/-! ## Proofs of the register-access family (41_register_access.md)

`completesOk_and_endsOnErr` says once how a host operation of one exchange ends on each answer; each
operation is this lemma at its own bytes and its own result registers. -/

namespace Sys2Proof.Machine

/-! ### How an operation ends -/

/-- An operation of one exchange `tx`, answered `rx`, ends with OK and leaves `o` in the result
registers (41_register_access.md R121). -/
abbrev CompletesOk (i : Instr) (s : State) (tx rx : List Byte) (o : Results) : Prop :=
  ∃ t, exec i s = .next t ∧ t.out = o ∧ Ended .ok t ∧ Answered s t tx rx ∧
    t.sacc = s.sacc ∧ t.command = s.command

/-- An operation whose completion writes result registers and ends with OK. -/
theorem completesOk {i : Instr} {s : State} {tx g : List Byte} {o : Results}
    (hok : nextAnswer s = .ok g) (htx : txOf i s = tx) (hlen : tx.length < 256)
    (hcomplete : onOkOf i (receive s tx.length g) (storeRx (receive s tx.length g) (sendTx tx s)) =
      endOperation .ok { storeRx (receive s tx.length g) (sendTx tx s) with out := o }) :
    CompletesOk i s tx (receive s tx.length g) o := by
  subst htx
  have hanswered := answered_of_ok i hlen hok
  have hexec := exec_eq_exchange i s
  rw [exchange_ok hok, hcomplete] at hanswered hexec
  exact ⟨_, hexec, rfl, ⟨rfl, rfl, rfl, rfl, rfl⟩, hanswered, rfl, rfl⟩

theorem onErrOf_hostOp {i : Instr} (hi : isHostOp i = true) (s : State) :
    onErrOf i s = transportError s := by
  simp [onErrOf, hi]

/-- `Err` ends a host operation with TRANSPORT_ERROR and writes no result register
(60_exceptions.md R202). -/
theorem endsOnErr {i : Instr} {s : State} {tx : List Byte} (hi : isHostOp i = true)
    (htx : txOf i s = tx) (hlen : tx.length < 256) : EndsOnErr i s tx := by
  subst htx
  intro herr
  have hshown := exchange_showsTx i s hlen
  have hkept := exchange_keeps i (txOf i s) s
  refine ⟨_, exec_eq_exchange i s, ?_⟩
  rw [exchange_err herr, onErrOf_hostOp hi] at hshown hkept ⊢
  exact ⟨⟨rfl, rfl, rfl, rfl, rfl⟩, rfl, rfl, rfl, hshown, by simp, hkept⟩

/-- An operation of one exchange of `n` bytes whose completion leaves `o rx` in the result registers
and ends with OK: how it ends on each answer. -/
theorem completesOk_and_endsOnErr {i : Instr} {s : State} {tx : List Byte} {n : Nat}
    (o : List Byte → Results) (hi : isHostOp i = true) (htx : txOf i s = tx) (hn : tx.length = n)
    (hfits : n < 256)
    (hcomplete : ∀ rx, onOkOf i rx (storeRx rx (sendTx tx s)) =
      endOperation .ok { storeRx rx (sendTx tx s) with out := o rx }) :
    (∀ g, nextAnswer s = .ok g → CompletesOk i s tx (receive s n g) (o (receive s n g))) ∧
      EndsOnErr i s tx := by
  subst hn
  exact ⟨fun _ hok => completesOk hok htx hfits (hcomplete _), endsOnErr hi htx hfits⟩

/-! ### One byte read or acknowledged -/

/-- Settles O32: RD_DATA takes the third byte of a Read's exchange. -/
theorem regReadOperation : Obligations.RegReadOperation :=
  ⟨rfl, neverIllegal (by decide) (by decide), fun s =>
    completesOk_and_endsOnErr (fun rx => { s.out with rdData := byteAt rx 2 }) rfl
      (placeholderBytes_eq_or .read s.cur.addr) rfl (by decide) fun _ => rfl⟩

/-- An operation that `completeAck` completes stores the third byte of its exchange in ACK, whatever
it is (D15). -/
theorem ackOperation {i : Instr} {s : State} {tx : List Byte} (hi : isHostOp i = true)
    (hack : onOkOf i = completeAck) (htx : txOf i s = tx) (hn : tx.length = 3) :
    (∀ g, nextAnswer s = .ok g →
      CompletesOk i s tx (receive s 3 g) { s.out with ack := byteAt (receive s 3 g) 2 }) ∧
      EndsOnErr i s tx :=
  completesOk_and_endsOnErr (fun rx => { s.out with ack := byteAt rx 2 }) hi htx hn (by decide)
    fun _ => by rw [hack]; rfl

/-- Settles O33: `ackOperation` at the bytes of a Write. -/
theorem regWriteOperation : Obligations.RegWriteOperation :=
  ⟨rfl, neverIllegal (by decide) (by decide), fun s =>
    ackOperation rfl rfl (writeBytes_eq_or s.cur.addr (.one s.cur.wdata)) rfl⟩

/-- Settles O35: `ackOperation` at the bytes of a WriteEEPROM. -/
theorem eepromWriteOperation : Obligations.EepromWriteOperation :=
  ⟨rfl, neverIllegal (by decide) (by decide), fun s =>
    ackOperation rfl rfl (placeholderBytes_eq_or .writeEEPROM s.cur.addr) rfl⟩

/-- Settles O36: `ackOperation` at the bytes of a SetZeroPoint. -/
theorem setZeroOperation : Obligations.SetZeroOperation :=
  ⟨rfl, neverIllegal (by decide) (by decide), fun s =>
    ackOperation rfl rfl (placeholderBytes_eq_or .setZeroPoint s.cur.addr) rfl⟩

/-! ### The burst -/

/-- BURST_COUNT is N − 2 as a number too. -/
theorem toNat_sub_two {n : Byte} (h : 3 ≤ n.toNat) : (n - 2).toNat = n.toNat - 2 := by
  bv_omega

/-- BURST_DATA holds the bytes received after the command phase, and 0x00 above them
(41_register_access.md R124). -/
theorem byteAt_fillArray_drop_two (rx : List Byte) {n i : Nat} (hi : i < n) :
    byteAt (fillArray n (rx.drop 2)) i = if i < rx.length - 2 then byteAt rx (2 + i) else 0 := by
  rw [byteAt_fillArray_eq_ite _ hi, List.length_drop, byteAt_drop_two, Nat.add_comm]

/-- A BURST_READ of a length out of range is not legal (30_encoding.md R84). -/
theorem legal_eq_false_of_burstLength {c : Config} {r : Request} (hop : r.op = 0x3)
    (hlen : r.tlen.toNat < 3 ∨ c.burstMaxTotal < r.tlen.toNat) : legal c r = false := by
  rw [Bool.eq_false_iff]
  intro hl
  obtain ⟨h3, hmax⟩ := (burstLengthOk_iff _ _).mp (burstLengthOk_of_legal hl hop)
  omega

/-- Settles O34: a legal length N makes an exchange of N bytes, whose third byte on go to BURST_DATA;
START refuses any other. -/
theorem burstReadOperation : Obligations.BurstReadOperation := by
  refine ⟨rfl, fun s => ⟨fun h3 _ => ?_, fun hbusy hop hlen => ?_⟩⟩
  · have htx := burstBytes_eq_or s.cur.addr s.cur.tlen
    have hlen : ([0xA0 ||| addrHigh s.cur.addr, addrLow s.cur.addr] ++
        List.replicate (s.cur.tlen.toNat - 2) padByte).length = s.cur.tlen.toNat := by
      rw [← htx, burstBytes_length]
      omega
    obtain ⟨hcompletes, herr⟩ := completesOk_and_endsOnErr (i := .burstRead)
      (fun rx => (completeBurst rx s).out) rfl htx hlen s.cur.tlen.isLt fun _ => rfl
    refine ⟨fun g hok => ?_, herr⟩
    obtain ⟨t, hexec, hout, hended, hanswered, hkept⟩ := hcompletes g hok
    refine ⟨t, hexec, ?_, ?_, fun i hi => ?_, ?_, hended, hanswered, hkept⟩ <;> rw [hout]
    · exact toNat_sub_two h3
    · exact fillArray_length _ _
    · exact (byteAt_fillArray_drop_two _ hi).trans (by rw [receive_length])
    · rfl
  · rw [startOp_of_illegal hbusy (legal_eq_false_of_burstLength hop hlen)]
    exact ⟨rfl, rfl, hbusy, rfl, rfl⟩

/-! ### One exchange per operation -/

/-- An ending sets DONE and clears BUSY, so it rules out whatever only a running operation allows. -/
theorem done_iff_of_ended {code : ResultCode} {t : State} {running : Prop} (he : Ended code t)
    (hrunning : ¬ running) :
    (t.done = true ↔ t.busy = false) ∧ (t.done = false ↔ running) := by
  obtain ⟨hbusy, hdone, -⟩ := he
  simp [hbusy, hdone, hrunning]

/-- What follows `Ok` leaves an operation running only where it advances STEP. -/
theorem onOkOf_done_iff {i : Instr} (hi : isHostOp i = true) (rx : List Byte) {s : State}
    (hflight : s.inFlight = false) (hbusy : s.busy = true) (hdone : s.done = false) :
    ((onOkOf i rx s).done = true ↔ (onOkOf i rx s).busy = false) ∧
      ((onOkOf i rx s).done = false ↔ i = .angleReadBytewise ∧ s.stepIdx.toNat < 3) := by
  by_cases hadvances : i = .angleReadBytewise ∧ s.stepIdx.toNat < 3
  · obtain ⟨rfl, h3⟩ := hadvances
    simp [onOkOf, completeAngleByte_advance h3, hbusy, hdone, h3]
  · rcases onOkOf_ends_or_advances hi rx hflight with ⟨code, -, he⟩ | ⟨hbytewise, h3, -⟩
    · exact done_iff_of_ended he hadvances
    · exact absurd ⟨hbytewise, h3⟩ hadvances

/-- Settles O56: `onOkOf_done_iff` on `Ok`, and `Err` always ends. -/
theorem oneExchangePerOperation : Obligations.OneExchangePerOperation := by
  intro i s hi hanswered hbusy hdone
  refine ⟨_, exec_eq_exchange i s, ?_⟩
  rcases exchange_cases (txOf i s) (onOkOf i) (onErrOf i) s with
    ⟨g, hok, ht⟩ | ⟨herr, ht⟩ | ⟨hnone, -⟩
  · obtain ⟨hends, hruns⟩ := onOkOf_done_iff hi (receive s (txOf i s).length g)
      (s := storeRx (receive s (txOf i s).length g) (sendTx (txOf i s) s)) rfl hbusy hdone
    rw [ht]
    exact ⟨hends, by simpa [hok] using hruns⟩
  · rw [ht]
    exact done_iff_of_ended (onErrOf_ends i (sendTx (txOf i s) s)) fun ⟨_, _, hne⟩ => hne herr
  · exact absurd hnone hanswered

end Sys2Proof.Machine

/-! ## Proofs of the angle family (42_angle.md)

The CRC: the byte and the register meet in one XOR, so a register followed by its own reflection is
cleared; and under an odd polynomial a shift keeps the bit it drops as its low bit, so the engine is
injective in the register and in each byte. The angle: `angleComplete_of_mismatch`,
`angleComplete_of_status` and `angleComplete_of_ok` say once what the validation step does; both
acquisitions are exchanges that end with it. -/

namespace Sys2Proof.Machine

/-! ### The CRC engine -/

theorem getLsbD_reverse8 (b : Byte) {i : Nat} (hi : i < 8) :
    (reverse8 b).getLsbD i = b.getLsbD (7 - i) := by
  simp only [reverse8, BitVec.getLsbD_append, BitVec.getLsbD_extractLsb']
  interval_cases i <;> simp

@[simp] theorem reverse8_reverse8 (b : Byte) : reverse8 (reverse8 b) = b := by
  refine BitVec.eq_of_getLsbD_eq fun i hi => ?_
  rw [getLsbD_reverse8 _ hi, getLsbD_reverse8 _ (by omega), Nat.sub_sub_self (by omega)]

theorem reflectIf_involutive (c : Config) : Function.Involutive (reflectIf c) := by
  intro b
  unfold reflectIf
  split <;> simp

theorem reflectIf_zero (c : Config) : reflectIf c 0 = 0 :=
  ite_eq_right_iff.mpr fun _ => rfl

theorem crcShifts_zero_register (poly : Byte) (n : Nat) : crcShifts poly n 0 = 0 := by
  induction n with
  | zero => rfl
  | succ n ih => exact ih

/-- A byte that is the register's own reflection clears it. -/
theorem crcByte_reflectIf_self (cfg : Config) (r : Byte) : crcByte cfg r (reflectIf cfg r) = 0 := by
  rw [crcByte, reflectIf_involutive cfg r, BitVec.xor_self]
  exact crcShifts_zero_register cfg.crcPoly 8

theorem crcRegister_append (cfg : Config) (xs ys : List Byte) (r : Byte) :
    crcRegister cfg (xs ++ ys) r = crcRegister cfg ys (crcRegister cfg xs r) := by
  induction xs generalizing r with
  | nil => rfl
  | cons x xs ih => exact ih (crcByte cfg r x)

theorem crc8_of_xorOut_eq_zero {cfg : Config} (h : cfg.crcXorOut = 0) (xs : List Byte) :
    crc8 cfg xs = reflectIf cfg (crcRegister cfg xs cfg.crcInit) := by
  rw [crc8, h]
  exact BitVec.xor_zero

/-- Settles O16: without a final XOR the CRC is the reflected register, which clears it. -/
theorem appendedCrcChecks : Obligations.AppendedCrcChecks := by
  intro c xs hxor
  rw [crc8_of_xorOut_eq_zero hxor, crc8_of_xorOut_eq_zero hxor, crcRegister_append, crcRegister,
    crcRegister, crcByte_reflectIf_self, reflectIf_zero]

/-- Under an odd polynomial a shift keeps the bit it drops as its low bit. -/
theorem getLsbD_crcShift_zero {poly : Byte} (hp : poly.getLsbD 0 = true) (r : Byte) :
    (crcShift poly r).getLsbD 0 = r.msb := by
  unfold crcShift
  split <;> simp_all

theorem crcShift_injective {poly : Byte} (hp : poly.getLsbD 0 = true) :
    Function.Injective (crcShift poly) := by
  intro r r' h
  have hmsb : r.msb = r'.msb := by
    rw [← getLsbD_crcShift_zero hp, h, getLsbD_crcShift_zero hp]
  have hshift : r <<< 1 = r' <<< 1 := by
    rw [crcShift, crcShift, ← hmsb] at h
    split at h
    · exact (BitVec.xor_left_inj poly).mp h
    · exact h
  rw [BitVec.msb_eq_decide, BitVec.msb_eq_decide, decide_eq_decide] at hmsb
  bv_omega

theorem crcShifts_injective {poly : Byte} (hp : poly.getLsbD 0 = true) (n : Nat) :
    Function.Injective (crcShifts poly n) := by
  induction n with
  | zero => exact Function.injective_id
  | succ n ih => exact ih.comp (crcShift_injective hp)

theorem crcByte_injective_register {cfg : Config} (hp : cfg.crcPoly.getLsbD 0 = true) (b : Byte) :
    Function.Injective (crcByte cfg · b) :=
  fun _ _ h => (BitVec.xor_left_inj _).mp (crcShifts_injective hp 8 h)

theorem crcByte_injective_byte {cfg : Config} (hp : cfg.crcPoly.getLsbD 0 = true) (r : Byte) :
    Function.Injective (crcByte cfg r) := fun _ _ h =>
  (reflectIf_involutive cfg).injective ((BitVec.xor_right_inj _).mp (crcShifts_injective hp 8 h))

theorem crcRegister_injective {cfg : Config} (hp : cfg.crcPoly.getLsbD 0 = true)
    (xs : List Byte) : Function.Injective (crcRegister cfg xs) := by
  induction xs with
  | nil => exact Function.injective_id
  | cons x xs ih => exact ih.comp (crcByte_injective_register hp x)

/-- Settles O17: equal CRCs give equal registers after the suffix, so after the byte, so equal
bytes. -/
theorem crcCatchesOneByte : Obligations.CrcCatchesOneByte := by
  intro c pre post b b' hp hne hcrc
  have hregister := (reflectIf_involutive c).injective ((BitVec.xor_left_inj _).mp hcrc)
  rw [crcRegister_append, crcRegister_append] at hregister
  exact hne (crcByte_injective_byte hp _ (crcRegister_injective hp post hregister))

/-- Settles O15: the engine computes each value. -/
theorem crcReferenceValues : Obligations.CrcReferenceValues := by
  unfold Obligations.CrcReferenceValues
  decide +kernel

/-! ### The raw angle -/

theorem rawAngle_eq_angleFormula (x : Sample) :
    rawAngle x = angleFormula x.angleHigh x.angleMid x.angleLowStatus := by
  have hhigh : (x.angleHigh ++ x.angleMid).setWidth 21 <<< 5 =
      (x.angleHigh.setWidth 21 <<< 13) ||| (x.angleMid.setWidth 21 <<< 5) := by
    rw [BitVec.setWidth_append_eq_shiftLeft_setWidth_or, BitVec.shiftLeft_or_distrib,
      ← BitVec.shiftLeft_add]
  have hlow : (x.angleLowStatus.extractLsb' 3 5).setWidth 21 =
      x.angleLowStatus.setWidth 21 >>> 3 := by
    apply BitVec.eq_of_toNat_eq
    simp only [BitVec.toNat_setWidth, BitVec.extractLsb'_toNat, BitVec.toNat_ushiftRight,
      Nat.shiftRight_eq_div_pow]
    omega
  calc rawAngle x
    _ = ((x.angleHigh ++ x.angleMid).setWidth 21 <<< 5) |||
          (x.angleLowStatus.extractLsb' 3 5).setWidth 21 :=
      (BitVec.setWidth_eq _).symm.trans BitVec.setWidth_append_eq_shiftLeft_setWidth_or
    _ = angleFormula x.angleHigh x.angleMid x.angleLowStatus := by
      rw [hhigh, hlow]
      rfl

/-- Each field stays below the weight of the next, so the append is a sum without carry. -/
theorem toNat_rawAngle (x : Sample) :
    (rawAngle x).toNat =
      x.angleHigh.toNat * 8192 + x.angleMid.toNat * 32 + x.angleLowStatus.toNat / 8 := by
  have hlow : (x.angleLowStatus.extractLsb' 3 5).toNat = x.angleLowStatus.toNat / 8 := by
    rw [BitVec.extractLsb'_toNat, Nat.shiftRight_eq_div_pow]
    omega
  rw [rawAngle, BitVec.toNat_append, BitVec.toNat_append, hlow,
    ← Nat.shiftLeft_add_eq_or_of_lt x.angleMid.isLt, ← Nat.shiftLeft_add_eq_or_of_lt (by omega)]
  omega

/-- Settles O13: the formula, the sum, and that only b2[7:3] is appended. -/
theorem rawAngleFormula : Obligations.RawAngleFormula := fun x =>
  ⟨rawAngle_eq_angleFormula x, toNat_rawAngle x, fun b hb => by rw [rawAngle, rawAngle, hb]⟩

/-! ### The validation step -/

theorem crcOk_iff (c : Config) (x : Sample) :
    crcOk c x = true ↔ crc8 c [x.angleHigh, x.angleMid, x.angleLowStatus] = x.crc :=
  beq_iff_eq

/-- A CRC mismatch shows the sample and ends with CRC_ERROR (42_angle.md R157). -/
theorem angleComplete_of_mismatch {x : Sample} {s : State}
    (hcrc : crc8 s.cfg [x.angleHigh, x.angleMid, x.angleLowStatus] ≠ x.crc) :
    angleComplete x s =
      endOperation .crcError
        { s with out := { s.out with sample := x, crcCalc := crc8 s.cfg (angleData x) } } := by
  rw [Ne, ← crcOk_iff] at hcrc
  have hcode : angleCode s.cfg x = .crcError := if_neg hcrc
  simp [angleComplete, angleResults, hcode, hcrc]

/-- A match with a status also stores the status (42_angle.md R158). -/
theorem angleComplete_of_status {x : Sample} {s : State}
    (hcrc : crc8 s.cfg [x.angleHigh, x.angleMid, x.angleLowStatus] = x.crc)
    (hstatus : statusField x ≠ 0) :
    angleComplete x s =
      endOperation .sensorStatus
        { s with out := { s.out with
            sample := x, crcCalc := crc8 s.cfg (angleData x), angleStatus := statusField x } } := by
  rw [← crcOk_iff] at hcrc
  have hcode : angleCode s.cfg x = .sensorStatus := (if_pos hcrc).trans (if_neg hstatus)
  simp [angleComplete, angleResults, hcode, hcrc]

/-- A match without one stores the angle (42_angle.md R159). -/
theorem angleComplete_of_ok {x : Sample} {s : State}
    (hcrc : crc8 s.cfg [x.angleHigh, x.angleMid, x.angleLowStatus] = x.crc)
    (hstatus : statusField x = 0) :
    angleComplete x s =
      endOperation .ok
        { s with out := { s.out with
            sample := x, crcCalc := crc8 s.cfg (angleData x), angleStatus := 0
            angleRaw := angleFormula x.angleHigh x.angleMid x.angleLowStatus } } := by
  rw [← crcOk_iff] at hcrc
  have hcode : angleCode s.cfg x = .ok := (if_pos hcrc).trans (if_pos hstatus)
  simp [angleComplete, angleResults, hcode, hcrc, hstatus, rawAngle_eq_angleFormula]

/-- Settles O37: one equation of `angleComplete` per outcome. -/
theorem angleValidation : Obligations.AngleValidation := by
  refine fun x s => ⟨fun hcrc => ?_, fun hcrc hstatus => ?_, fun hcrc hstatus => ?_⟩
  · rw [angleComplete_of_mismatch hcrc]
    exact ⟨rfl, rfl, rfl, rfl, rfl⟩
  · rw [angleComplete_of_status hcrc hstatus]
    exact ⟨rfl, rfl, rfl⟩
  · rw [angleComplete_of_ok hcrc hstatus]
    exact ⟨rfl, rfl, rfl⟩

/-- The validation step leaves one of the outcomes of R157 to R159 and the other result registers as
they were. -/
theorem angleOutcome_angleComplete (x : Sample) {s : State} (hflight : s.inFlight = false) :
    AngleOutcome s.cfg x s.out (angleComplete x s) := by
  refine ⟨rfl, rfl, rfl, rfl, rfl, rfl, ?_⟩
  split_ifs with hcrc hstatus
  · rw [angleComplete_of_mismatch hcrc]
    exact ⟨⟨rfl, rfl, rfl, rfl, hflight⟩, rfl, rfl⟩
  · rw [angleComplete_of_status (not_not.mp hcrc) hstatus]
    exact ⟨⟨rfl, rfl, rfl, rfl, hflight⟩, rfl, rfl⟩
  · rw [angleComplete_of_ok (not_not.mp hcrc) (not_not.mp hstatus)]
    exact ⟨⟨rfl, rfl, rfl, rfl, hflight⟩, rfl, rfl⟩

/-! ### An instruction answered `Ok` -/

theorem exec_ok {i : Instr} {s u : State} {g : List Byte} (hok : nextAnswer s = .ok g)
    (hcomplete : onOkOf i (receive s (txOf i s).length g)
      (storeRx (receive s (txOf i s).length g) (sendTx (txOf i s) s)) = u) :
    exec i s = .next (takeAnswer u) := by
  rw [exec_eq_exchange, exchange_ok hok, hcomplete]

theorem answered_of_exec {i : Instr} {s t : State} {tx g : List Byte} (hexec : exec i s = .next t)
    (hok : nextAnswer s = .ok g) (htx : txOf i s = tx) (hlen : tx.length < 256) :
    Answered s t tx (receive s tx.length g) := by
  rw [exec_eq_exchange, htx] at hexec
  cases hexec
  exact answered_of_ok i hlen hok

/-! ### ANGLE_READ_BURST -/

theorem txAngleBurst_eq : txAngleBurst = [0xA0, 0x03, padByte, padByte, padByte, padByte] := rfl

/-- `s` once an angle burst answered `g` has been validated (42_angle.md R160). -/
def burstValidated (g : List Byte) (s : State) : State :=
  takeAnswer (angleComplete (burstSample (receive s 6 g))
    (storeRx (receive s 6 g) (sendTx txAngleBurst s)))

theorem exec_angleReadBurst_ok {s : State} {g : List Byte} (hok : nextAnswer s = .ok g) :
    exec .angleReadBurst s = .next (burstValidated g s) :=
  exec_ok hok rfl

/-- Settles O38: the burst's own bytes, and the validation step on rx[2..5]. -/
theorem angleReadBurstOperation : Obligations.AngleReadBurstOperation := by
  refine ⟨rfl, neverIllegal (by decide) (by decide), fun s =>
    ⟨fun g hok => ⟨burstValidated g s, exec_angleReadBurst_ok hok, ?_, ?_, rfl, rfl⟩,
      endsOnErr rfl txAngleBurst_eq (by simp)⟩⟩
  · exact angleOutcome_angleComplete (burstSample (receive s 6 g))
      (s := storeRx (receive s 6 g) (sendTx txAngleBurst s)) rfl
  · exact answered_of_exec (exec_angleReadBurst_ok hok) hok txAngleBurst_eq (by simp)

/-! ### ANGLE_READ_BYTEWISE -/

/-- Exchange k reads the register 0x003 + k (42_angle.md R165). -/
theorem txAngleByte_eq (k : BitVec 2) :
    txAngleByte k = [0x30, 0x03 + k.zeroExtend 8, padByte] := by
  revert k
  decide

theorem sampleBytes_setSampleByte (x : Sample) (k : BitVec 2) (v : Byte) :
    sampleBytes (setSampleByte x k v) = (sampleBytes x).set k.toNat v := by
  obtain rfl | rfl | rfl | rfl : k = 0 ∨ k = 1 ∨ k = 2 ∨ k = 3 := by
    revert k
    decide
  all_goals rfl

theorem byteAt_set {xs : List Byte} {i : Nat} (hi : i < xs.length) (v : Byte) (k : Nat) :
    byteAt (xs.set i v) k = if k = i then v else byteAt xs k := by
  split_ifs with h
  · simp [byteAt, h, hi]
  · simp [byteAt, Ne.symm h]

/-- `s` once exchange number STEP, answered `g`, has stored its byte in SACC. -/
def byteStored (g : List Byte) (s : State) : State :=
  { storeRx (receive s 3 g) (sendTx (txAngleByte s.stepIdx) s) with
    sacc := setSampleByte s.sacc s.stepIdx (byteAt (receive s 3 g) 2) }

/-- `s` once such an exchange before the fourth is done. -/
def byteAdvanced (g : List Byte) (s : State) : State :=
  takeAnswer { byteStored g s with stepIdx := s.stepIdx + 1 }

/-- `s` once the fourth is done. -/
def byteValidated (g : List Byte) (s : State) : State :=
  takeAnswer (angleComplete (byteStored g s).sacc (byteStored g s))

theorem exec_angleReadBytewise_advance {s : State} {g : List Byte} (hok : nextAnswer s = .ok g)
    (h3 : s.stepIdx.toNat < 3) : exec .angleReadBytewise s = .next (byteAdvanced g s) :=
  exec_ok hok (completeAngleByte_advance
    (s := storeRx (receive s 3 g) (sendTx (txAngleByte s.stepIdx) s)) h3 _)

theorem exec_angleReadBytewise_last {s : State} {g : List Byte} (hok : nextAnswer s = .ok g)
    (h3 : ¬ s.stepIdx.toNat < 3) : exec .angleReadBytewise s = .next (byteValidated g s) :=
  exec_ok hok (completeAngleByte_last
    (s := storeRx (receive s 3 g) (sendTx (txAngleByte s.stepIdx) s)) h3 _)

/-- Settles O39: an exchange before the fourth stores its byte and advances; the fourth stores its
byte and validates SACC. -/
theorem angleReadBytewiseOperation : Obligations.AngleReadBytewiseOperation := by
  refine ⟨rfl, neverIllegal (by decide) (by decide), fun s =>
    ⟨fun g hok h3 => ?_, fun g hok h3 => ?_,
      endsOnErr rfl (txAngleByte_eq s.stepIdx) (by simp)⟩⟩
  · have hexec := exec_angleReadBytewise_advance hok h3
    have hstep : (s.stepIdx + 1).toNat = s.stepIdx.toNat + 1 := by bv_omega
    refine ⟨byteAdvanced g s, hexec, hstep, fun k _ => ?_, rfl, rfl, rfl, rfl, rfl, rfl,
      answered_of_exec hexec hok (txAngleByte_eq s.stepIdx) (by simp)⟩
    exact (congrArg (byteAt · k) (sampleBytes_setSampleByte _ _ _)).trans
      (byteAt_set s.stepIdx.isLt _ k)
  · have hexec := exec_angleReadBytewise_last hok (by simp [h3])
    have htx : txAngleByte s.stepIdx = [0x30, 0x06, padByte] := by rw [h3]; rfl
    have hsacc : (byteStored g s).sacc = { s.sacc with crc := byteAt (receive s 3 g) 2 } := by
      rw [byteStored, h3]; rfl
    exact ⟨byteValidated g s, hexec, hsacc,
      angleOutcome_angleComplete (byteStored g s).sacc (s := byteStored g s) rfl, rfl,
      answered_of_exec hexec hok htx (by simp)⟩

/-! ### One burst and four bytewise exchanges -/

@[simp] theorem byteStored_cfg (g : List Byte) (s : State) : (byteStored g s).cfg = s.cfg := rfl
@[simp] theorem byteStored_out (g : List Byte) (s : State) : (byteStored g s).out = s.out := rfl
@[simp] theorem byteStored_lastLen (g : List Byte) (s : State) :
    (byteStored g s).last.len = 3 := rfl
@[simp] theorem byteAdvanced_cfg (g : List Byte) (s : State) : (byteAdvanced g s).cfg = s.cfg := rfl
@[simp] theorem byteAdvanced_out (g : List Byte) (s : State) : (byteAdvanced g s).out = s.out := rfl
@[simp] theorem byteAdvanced_stepIdx (g : List Byte) (s : State) :
    (byteAdvanced g s).stepIdx = s.stepIdx + 1 := rfl
@[simp] theorem byteAdvanced_answers (g : List Byte) (s : State) :
    (byteAdvanced g s).answers = s.answers.tail := rfl
@[simp] theorem byteAdvanced_sacc (g : List Byte) (s : State) :
    (byteAdvanced g s).sacc = setSampleByte s.sacc s.stepIdx (byteAt (receive s 3 g) 2) := rfl

@[simp] theorem byteAt_receive_third (s : State) (y z b : Byte) :
    byteAt (receive s 3 [y, z, b]) 2 = b := rfl

theorem execTimes_succ {i : Instr} {s t : State} (h : exec i s = .next t) (n : Nat) :
    execTimes i (n + 1) s = execTimes i n t := by
  rw [execTimes, h]

theorem execTimes_advance {s : State} (g : List Byte) (hok : nextAnswer s = .ok g)
    (h3 : s.stepIdx.toNat < 3) (n : Nat) :
    execTimes .angleReadBytewise (n + 1) s = execTimes .angleReadBytewise n (byteAdvanced g s) :=
  execTimes_succ (exec_angleReadBytewise_advance hok h3) n

theorem execTimes_last {s : State} (g : List Byte) (hok : nextAnswer s = .ok g)
    (h3 : ¬ s.stepIdx.toNat < 3) : execTimes .angleReadBytewise 1 s = .next (byteValidated g s) :=
  execTimes_succ (exec_angleReadBytewise_last hok h3) 0

/-- Four exchanges answered `Ok`: three advance STEP from 0 to 3, and the fourth validates the four
bytes stored. -/
theorem execTimes_angleReadBytewise {s : State} {y0 y1 y2 y3 z0 z1 z2 z3 b0 b1 b2 c : Byte}
    {as : List Answer} (hstep : s.stepIdx = 0)
    (has : s.answers = .ok [y0, z0, b0] :: .ok [y1, z1, b1] :: .ok [y2, z2, b2] ::
      .ok [y3, z3, c] :: as) :
    ∃ u, execTimes .angleReadBytewise 4 s = .next (takeAnswer (angleComplete
        { angleHigh := b0, angleMid := b1, angleLowStatus := b2, crc := c } u)) ∧
      u.cfg = s.cfg ∧ u.out = s.out ∧ u.last.len = 3 := by
  refine ⟨byteStored [y3, z3, c] (byteAdvanced [y2, z2, b2] (byteAdvanced [y1, z1, b1]
    (byteAdvanced [y0, z0, b0] s))), ?_, by simp, by simp, by simp⟩
  rw [execTimes_advance [y0, z0, b0], execTimes_advance [y1, z1, b1],
    execTimes_advance [y2, z2, b2], execTimes_last [y3, z3, c]]
  · simp [byteValidated, byteStored, hstep]
  all_goals simp [nextAnswer, has, hstep]

/-- Settles O54: both end with the validation step on the same sample. -/
theorem angleVariantsAgree : Obligations.AngleVariantsAgree := by
  intro s b0 b1 b2 c x0 x1 y0 y1 y2 y3 z0 z1 z2 z3 as as' hstep
  obtain ⟨u, hbytewise, hcfg, hout, hlen⟩ := execTimes_angleReadBytewise
    (s := scripted (.ok [y0, z0, b0] :: .ok [y1, z1, b1] :: .ok [y2, z2, b2] ::
      .ok [y3, z3, c] :: as') s) hstep rfl
  refine ⟨_, _, exec_angleReadBurst_ok rfl, hbytewise, ?_⟩
  simp only [takeAnswer_out, angleComplete_out, takeAnswer_result, angleComplete_result,
    takeAnswer_last, angleComplete_last, hcfg, hout, hlen]
  exact ⟨rfl, rfl, rfl, rfl, rfl, rfl, rfl, rfl⟩

end Sys2Proof.Machine

/-! ## Proofs of the configuration family (43_config.md)

The ABZ word is a sum without carry, which the packer gives in range. ABZ_RES_WRITE sends the word's
two bytes in an exchange whose completion writes no result register. -/

namespace Sys2Proof.Machine

/-! ### The ABZ packer -/

/-- Each field stays below the weight of the next, so the append is a sum without carry. -/
theorem toNat_abzWord (res : Resolution) (sw off : Bool) :
    (abzWord res sw off).toNat = 4 * res.toNat + 2 * off.toNat + sw.toNat := by
  rw [abzWord, BitVec.toNat_append, BitVec.toNat_append,
    ← Nat.shiftLeft_add_eq_or_of_lt (BitVec.isLt _),
    ← Nat.shiftLeft_add_eq_or_of_lt (BitVec.isLt _), BitVec.toNat_ofBool, BitVec.toNat_ofBool]
  omega

theorem abzWord_eq_ofNat (res : Nat) {sw off : Nat} (hsw : sw ≤ 1) (hoff : off ≤ 1) :
    abzWord (BitVec.ofNat 14 res) (sw == 1) (off == 1) =
      BitVec.ofNat 16 (4 * res + 2 * off + sw) := by
  apply BitVec.eq_of_toNat_eq
  rw [toNat_abzWord, boolOfNat_toNat (by omega), boolOfNat_toNat (by omega), BitVec.toNat_ofNat,
    BitVec.toNat_ofNat]
  omega

/-- Settles O12: the resolution is looked at first, then AB_SWAP, then ABZ_OFF. -/
theorem abzPackerRefusesWideOperands : Obligations.AbzPackerRefusesWideOperands :=
  fun res _ _ =>
    ⟨fun hres hsw hoff => (if_neg hres.not_gt).trans ((if_neg hsw.not_gt).trans
        ((if_neg hoff.not_gt).trans (congrArg Except.ok (abzWord_eq_ofNat res hsw hoff)))),
      fun hres => if_pos hres,
      fun hres hsw => (if_neg hres.not_gt).trans (if_pos hsw),
      fun hres hsw hoff => (if_neg hres.not_gt).trans ((if_neg hsw.not_gt).trans (if_pos hoff))⟩

/-! ### ABZ_RES_WRITE -/

/-- A Write of the word's two bytes to register 0x007, high byte first (43_config.md R180, D12). -/
theorem txAbzResWrite_eq (r : Request) :
    txAbzResWrite r = [0x60, 0x07, (abzFormula r.res r.abSwap r.abzOff).extractLsb' 8 8,
      (abzFormula r.res r.abSwap r.abzOff).extractLsb' 0 8] := by
  obtain ⟨hword, -⟩ := abzWordFields.1 r.res r.abSwap r.abzOff
  rw [← hword]
  rfl

/-- Settles O40: the completion leaves the result registers as they were. -/
theorem abzResWriteOperation : Obligations.AbzResWriteOperation :=
  ⟨rfl, neverIllegal (by decide) (by decide), fun s =>
    completesOk_and_endsOnErr (fun _ => s.out) rfl (txAbzResWrite_eq s.cur) rfl (by decide)
      fun _ => rfl⟩

end Sys2Proof.Machine

/-! ## Proofs of the exceptions family (60_exceptions.md)

Each way a request can go wrong is a case of an operation that stands above: an `Err` is `endsOnErr`
with the transaction's length discharged, a request that is not legal is the refusing half of
`startLatchesAndChecks`, and a START while BUSY = 1 is `raise`. -/

namespace Sys2Proof.Machine

/-! ### An exchange answered Err -/

/-- LAST_LEN, a byte, can hold the length of every exchange: that of a burst is a byte itself. -/
theorem txOf_length_lt (i : Instr) (s : State) : (txOf i s).length < 256 := by
  cases i with
  | read | writeEEPROM | setZeroPoint | regRead | eepromWrite | setZero | angleReadBytewise =>
    exact (by decide : 3 < 256)
  | write | regWrite | abzResWrite => exact (writeBytes_length_le _ _).trans_lt (by decide)
  | angleReadBurst => exact (by decide : 6 < 256)
  | continuousRead a n =>
    have hn := n.isLt
    simp only [txOf, burstBytes_length]
    omega
  | burstRead =>
    have hn := s.cur.tlen.isLt
    simp only [txOf, txBurstRead, burstBytes_length]
    omega

/-- Settles O41: `endsOnErr` at the instruction's own bytes, which are always few enough. -/
theorem transportErrorEnds : Obligations.TransportErrorEnds := by
  intro i s hi herr
  obtain ⟨t, hexec, hended, hout, hsacc, hcommand, -, hrx, hkept, hdraw⟩ :=
    endsOnErr hi rfl (txOf_length_lt i s) herr
  exact ⟨t, hexec, hended, hout, hsacc, hrx, hcommand, hkept, hdraw⟩

/-! ### A request that is not legal -/

/-- A request with a reserved REQ_OP code is not legal (30_encoding.md R84). -/
theorem legal_eq_false_of_reserved {c : Config} {r : Request} (h : r.op = 0x0 ∨ 9 ≤ r.op.toNat) :
    legal c r = false := by
  rw [Bool.eq_false_iff]
  intro hl
  obtain ⟨hdef, -⟩ := (legal_iff c r).mp hl
  bv_omega

/-- Settles O19: the request is not legal, and `startLatchesAndChecks` says what START does then. -/
theorem illegalRequestsEndAtStart : Obligations.IllegalRequestsEndAtStart := by
  intro s rest hr hq hb hill
  have hl : legal s.cfg s.req = false := by
    rcases hill with hzero | hnine | ⟨hop, hlen⟩
    · exact legal_eq_false_of_reserved (.inl hzero)
    · exact legal_eq_false_of_reserved (.inr hnine)
    · exact legal_eq_false_of_burstLength hop hlen
  obtain ⟨t, hstep, hcur, -, -, -, hout, hlast, -, hqueue, hflight, -, -, hanswers, hdraws, -,
    hrefused⟩ := startLatchesAndChecks s rest hr hq hb
  obtain ⟨hbusy, hdone, hresult⟩ := hrefused hl
  exact ⟨t, hstep, hresult, hdone, hbusy, hcur, hout, hlast, hflight, hanswers, hdraws, hqueue⟩

/-! ### A START while BUSY = 1 -/

theorem startOp_of_busy {s : State} (hb : s.busy = true) : startOp s = raise .startWhileBusy s :=
  if_pos hb

theorem step_of_faulted {s : State} {f : Fault} (h : s.raised = some f) : step s = .fault f := by
  simp [step, nextMove_faulted h]

/-- Settles O20: START raises and does no more, and a faulted machine's next move is the fault. -/
theorem startWhileBusyFaults : Obligations.StartWhileBusyFaults :=
  ⟨fun s rest hr hq hb =>
    (step_start hr hq).trans
      (congrArg _ (startOp_of_busy (s := { s with hostQueue := rest }) hb)),
    fun _ _ hf => step_of_faulted hf⟩

end Sys2Proof.Machine

/-! ## Proofs of the reset and hazards family (70_reset_and_hazards.md)

A reset replaces the block; an exchange without an answer only shows its tx bytes; no exchange reads
REQ_*. An answered exchange ends its operation or advances STEP (`exchange_answered`), and STEP has
four values, so four answers end every operation. -/

namespace Sys2Proof.Machine

/-! ### Reset -/

theorem step_reset {s : State} {rest : List HostAction} (hr : s.raised = none)
    (hq : s.hostQueue = .reset :: rest) :
    step s = .next (resetBlock { s with hostQueue := rest }) :=
  step_of_host (nextMove_host hr hq)

/-- Settles O24: a reset does not look at BUSY. -/
theorem resetAtAnyTime : Obligations.ResetAtAnyTime := fun _ _ hr hq => step_reset hr hq

/-! ### An exchange without an answer -/

/-- Settles O42: without an answer an exchange is its sending half alone. -/
theorem noAnswerKeepsWaiting : Obligations.NoAnswerKeepsWaiting := by
  intro i s hnone
  have hshown := exchange_showsTx i s (txOf_length_lt i s)
  have hkept := exchange_keeps i (txOf i s) s
  refine ⟨_, exec_eq_exchange i s, ?_⟩
  rw [exchange_noAnswer hnone] at hshown hkept ⊢
  exact ⟨⟨rfl, rfl, rfl, rfl⟩, hshown, rfl, rfl, rfl, rfl, rfl, hkept⟩

/-! ### REQ_* during an operation -/

/-- What an instruction sends does not depend on REQ_*: its operands are fields of CUR
(30_encoding.md R83). -/
theorem txOf_with_req (i : Instr) (s : State) (q : Request) :
    txOf i { s with req := q } = txOf i s := by
  cases i <;> rfl

theorem onOkOf_with_req (i : Instr) (rx : List Byte) (s : State) (q : Request) :
    onOkOf i rx { s with req := q } = { onOkOf i rx s with req := q } := by
  cases i with
  | angleReadBytewise => simp only [onOkOf, completeAngleByte]; split <;> rfl
  | _ => rfl

theorem onErrOf_with_req (i : Instr) (s : State) (q : Request) :
    onErrOf i { s with req := q } = { onErrOf i s with req := q } := by
  unfold onErrOf; split <;> rfl

/-- An exchange neither reads nor writes REQ_*. -/
theorem exchange_with_req (i : Instr) (tx : List Byte) (s : State) (q : Request) :
    exchange tx (onOkOf i) (onErrOf i) { s with req := q } =
      { exchange tx (onOkOf i) (onErrOf i) s with req := q } := by
  have hnext : nextAnswer { s with req := q } = nextAnswer s := rfl
  rcases exchange_cases tx (onOkOf i) (onErrOf i) s with ⟨g, ha, ht⟩ | ⟨ha, ht⟩ | ⟨ha, ht⟩ <;>
    rw [ht]
  · rw [exchange_ok (hnext.trans ha)]
    exact congrArg takeAnswer (onOkOf_with_req i (receive s tx.length g)
      (storeRx (receive s tx.length g) (sendTx tx s)) q)
  · rw [exchange_err (hnext.trans ha)]
    exact congrArg takeAnswer (onErrOf_with_req i (sendTx tx s) q)
  · rw [exchange_noAnswer (hnext.trans ha)]
    rfl

/-- Settles O51: an exchange carries other REQ_* values along unread, and START copies them to CUR,
as `startLatchesAndChecks` says. -/
theorem requestWritesDoNotDisturb : Obligations.RequestWritesDoNotDisturb := by
  refine ⟨fun i s q => ⟨_, exec_eq_exchange i s, ?_⟩, fun s q rest hr hq hb => ?_⟩
  · rw [exec_eq_exchange, txOf_with_req, exchange_with_req]
  · obtain ⟨t, hstep, hcur, -⟩ := startLatchesAndChecks { s with req := q } rest hr hq hb
    exact ⟨t, hstep, hcur⟩

/-! ### An operation whose exchanges are answered -/

/-- A legal operation runs, and its next exchange has the next turn. -/
abbrev Running (s : State) : Prop :=
  s.raised = none ∧ s.hostQueue = [] ∧ s.command = none ∧ s.busy = true ∧ s.done = false ∧
    legal s.cfg s.cur = true

/-- Its step is the exchange of a host operation. -/
theorem step_of_running {s : State} (h : Running s) :
    ∃ i, isHostOp i = true ∧
      step s = .next (exchange (txOf i s) (onOkOf i) (onErrOf i) s) := by
  obtain ⟨hr, hq, hc, hb, -, hl⟩ := h
  obtain ⟨i, hdecode, hi⟩ := (legalRequests s.cfg s.cur).2 hl
  obtain ⟨-, hruns, -⟩ := stepRunsDecoded s s ⟨hr, .inl ⟨hq, rfl⟩⟩
  exact ⟨i, hi, (hruns i hc hb hl hdecode).trans (exec_eq_exchange i s)⟩

/-- An answered exchange of a host operation ends it, or is one of the first three of
ANGLE_READ_BYTEWISE and advances STEP. -/
theorem exchange_answered {i : Instr} (hi : isHostOp i = true) (tx : List Byte) {s : State}
    (ha : nextAnswer s ≠ .noAnswer) :
    (∃ code, code ≠ .noResult ∧ Ended code (exchange tx (onOkOf i) (onErrOf i) s)) ∨
      (s.stepIdx.toNat < 3 ∧
        (exchange tx (onOkOf i) (onErrOf i) s).stepIdx = s.stepIdx + 1 ∧
        (exchange tx (onOkOf i) (onErrOf i) s).busy = s.busy ∧
        (exchange tx (onOkOf i) (onErrOf i) s).done = s.done ∧
        (exchange tx (onOkOf i) (onErrOf i) s).command = s.command) := by
  rcases exchange_cases tx (onOkOf i) (onErrOf i) s with ⟨g, -, ht⟩ | ⟨-, ht⟩ | ⟨hnone, -⟩
  · rw [ht]
    rcases onOkOf_ends_or_advances hi (receive s tx.length g)
      (storeRx_inFlight (receive s tx.length g) (sendTx tx s)) with he | ⟨-, h3, ho⟩
    · exact .inl he
    · rw [ho]
      exact .inr ⟨h3, rfl, rfl, rfl, rfl⟩
  · rw [ht]
    exact .inl ⟨.transportError, by simp, onErrOf_ends i (sendTx tx s)⟩
  · exact absurd hnone ha

/-- A running operation whose exchange is answered ends in one step, or runs on at the next STEP with
the rest of the script. -/
theorem running_step {s : State} (h : Running s) (ha : nextAnswer s ≠ .noAnswer) :
    ∃ t, step s = .next t ∧
      ((∃ code, code ≠ .noResult ∧ Ended code t) ∨
        (Running t ∧ t.stepIdx.toNat = s.stepIdx.toNat + 1 ∧ t.answers = s.answers.tail)) := by
  obtain ⟨i, hi, hstep⟩ := step_of_running h
  refine ⟨_, hstep, (exchange_answered hi (txOf i s) ha).imp_right ?_⟩
  rintro ⟨h3, hidx, hbusy, hdone, hcommand⟩
  obtain ⟨⟨hcfg, -, hcur, hraised, hqueue⟩, hanswers, -⟩ := exchange_keeps i (txOf i s) s
  refine ⟨?_, ?_, hanswers⟩
  · simpa only [Running, hraised, hqueue, hcommand, hbusy, hdone, hcfg, hcur] using h
  · rw [hidx]
    bv_omega

/-- An operation ends within as many steps as there are answers, where these are no fewer than the
exchanges STEP still allows. -/
theorem running_ends {answered as : List Answer} {s : State} (h : Running s)
    (hans : s.answers = answered ++ as) (hne : ∀ a ∈ answered, a ≠ .noAnswer)
    (hlen : 4 ≤ answered.length + s.stepIdx.toNat) :
    ∃ k t code, k ≤ answered.length ∧ RunsTo k s t ∧ code ≠ .noResult ∧ Ended code t := by
  induction answered generalizing s with
  | nil =>
    have hidx := s.stepIdx.isLt
    simp only [List.length_nil] at hlen
    omega
  | cons a answered ih =>
    rw [List.forall_mem_cons] at hne
    have hnext : nextAnswer s = a := nextAnswer_script s a (answered ++ as) hans
    obtain ⟨t, hstep, ⟨code, hcode, hended⟩ | ⟨hrunning, hidx, htail⟩⟩ :=
      running_step h (hnext ▸ hne.1)
    · exact ⟨1, t, code, by simp, runsTo_of_step hstep rfl, hcode, hended⟩
    · simp only [List.length_cons] at hlen
      obtain ⟨k, u, code, hk, hruns, hcode, hended⟩ :=
        ih hrunning (by rw [htail, hans]; rfl) hne.2 (by omega)
      exact ⟨k + 1, u, code, Nat.succ_le_succ hk, runsTo_of_step hstep hruns, hcode, hended⟩

/-- Settles O57: `running_ends` with the four scripted answers. -/
theorem answeredOperationsEnd : Obligations.AnsweredOperationsEnd := by
  intro s a0 a1 a2 a3 as hr hq hc hb hd hl hans h0 h1 h2 h3
  obtain ⟨k, t, code, hk, hruns, hcode, hbusy, hdone, hresult, -⟩ :=
    running_ends (answered := [a0, a1, a2, a3]) (as := as) ⟨hr, hq, hc, hb, hd, hl⟩ hans
      (by simp [h0, h1, h2, h3]) (by simp)
  exact ⟨k, t, hk, hruns, hbusy, hdone, hresult ▸ hcode⟩

end Sys2Proof.Machine
